-- ==== Sys2Proof/Word.lean ====
section
/-! DEFINITION. The byte, and the two fixed-length byte sequences of the spec (00_scope R10 to R12). -/

namespace Sys2Proof

/-- A byte: an unsigned integer 0 to 255, bit 0 the least significant (00_scope R10, R11). -/
abbrev Byte := BitVec 8

/-- The 20 bytes of a status frame, indexed by frame offset (30_encoding R74). -/
abbrev Frame := Vector Byte 20

/-- The 4 bytes of a command frame in wire order (30_encoding R71). -/
abbrev CommandFrame := Vector Byte 4

end Sys2Proof
end

