-- ==== Sys2Proof/Config.lean ====
section
/-! DEFINITION. The constants of the spec (00_scope R8, 10_state R25) and the values it leaves open. -/

namespace Sys2Proof.Config

/-- `HDR0`, first header byte of a command frame (00_scope R8). -/
def hdr0 : Byte := 0x81
/-- `HDR1`, second header byte of a command frame (00_scope R8). -/
def hdr1 : Byte := 0x73
/-- `FRAME_LEN`, bytes in a status frame; also the `expected` value of a short frame (00_scope R8, 42 R169). -/
def frameLen : Nat := 20
/-- `COUNT_EXPECTED`, the required value of status byte 2 (00_scope R8). -/
def countExpected : Byte := 16
/-- `STATUS_REQUEST_OPCODE` (00_scope R8). -/
def statusRequestOpcode : Byte := 0x53
/-- `SEL_BASE`, added to an InputSource to select the primary input (00_scope R8). -/
def selBase : Byte := 0x03
/-- `Z2SEL_BASE`, added to an InputSource to select the zone2 input (00_scope R8). -/
def z2selBase : Byte := 0x41
/-- `VOL_MAX`, the last level of the stated volume scale (00_scope R8). -/
def volMax : Nat := 90
/-- `VOL_OFFSET_DB`, the decibels of level 0 (00_scope R8). -/
def volOffsetDb : Int := -76
/-- The transport's speed (00_scope R8). No step depends on it (70 R312). -/
def baudRate : Nat := 9600
/-- `T_RX_TIMEOUT` in time units the source does not define (00_scope R8). No step depends on it (70 R312). -/
def rxTimeoutUnits : Nat := 2
/-- `TIME_UNIT`, the open parameter of the host model in which the read timeout is counted: a duration with no default,
known to no proof (00_scope R9, 92 D28, 93 U16). DESIGN CHOICE, log entry 25. -/
opaque timeUnit : Nat
/-- How long a read waits before it answers with what there is: `T_RX_TIMEOUT` units of `TIME_UNIT` (44 R224). Only the
bytes it has let arrive reach the machine, as `Link.arrivals`. DESIGN CHOICE, log entry 25. -/
def rxTimeout : Nat := rxTimeoutUnits * timeUnit

/-- `NONE`: no decode has finished since the last `FP_START` or `RESET` (10_state R25). -/
def resNone : BitVec 3 := 0
/-- `OK`: a frame passed both checks and was latched (10_state R25). -/
def resOk : BitVec 3 := 1
/-- `ERR_SHORT_FRAME` (10_state R25). -/
def resShortFrame : BitVec 3 := 2
/-- `ERR_UNEXPECTED_COUNT` (10_state R25). -/
def resUnexpectedCount : BitVec 3 := 3
/-- `ERR_CHECKSUM_MISMATCH` (10_state R25). -/
def resChecksumMismatch : BitVec 3 := 4

/-- What byte `i` of `buf` holds after power-up and reset: any value, known to no proof (93 U1).
DESIGN CHOICE, log entry 6. -/
opaque powerUpBuf : Nat → Byte
/-- What byte `i` of `lat` holds after power-up and reset: any value, known to no proof (93 U2).
DESIGN CHOICE, log entry 6. -/
opaque powerUpLat : Nat → Byte

end Sys2Proof.Config
end

