-- ==== Sys2Proof/Machine/Checksum.lean ====
section
/-! DEFINITION. The checksum function and the command frame it closes (40 R100, 30 R71, R72). -/

namespace Sys2Proof.Machine

/-- `low8`: a natural number modulo 256 (00_scope R13). -/
def low8 (n : Nat) : Byte := BitVec.ofNat 8 n

/-- `csum8`: the low byte of the exact sum of the bytes (40 R100). -/
def csum8 (s : List Byte) : Byte := low8 ((s.map BitVec.toNat).sum)

/-- The checksum of a command frame: `csum8` of header and opcode (30 R72). -/
def commandChecksum (opcode : Byte) : Byte := csum8 [Config.hdr0, Config.hdr1, opcode]

/-- The four bytes that frame a wire opcode, `encode_command` of the source (41 R120). -/
def commandFrame (opcode : Byte) : CommandFrame :=
  #v[Config.hdr0, Config.hdr1, opcode, commandChecksum opcode]

/-- Four bytes in wire order as the 32-bit word `W` of the opcode table (30 R73). -/
def frameWord (b0 b1 b2 b3 : Byte) : BitVec 32 := b0 ++ b1 ++ b2 ++ b3

/-- `W[31:24]`, `W[23:16]`: the header bytes of a frame word (30 R73). -/
def wordHeader (w : BitVec 32) : BitVec 16 := w.extractLsb' 16 16

/-- `W[15:8]`: the wire opcode of a frame word (30 R73). -/
def wordOpcode (w : BitVec 32) : Byte := w.extractLsb' 8 8

/-- `W[7:0]`: the checksum byte of a frame word (30 R73). -/
def wordChecksum (w : BitVec 32) : Byte := w.extractLsb' 0 8

/-- `op[2:0]` of the 11-bit operation word (30 R84). -/
def operationSelect (w : BitVec 11) : BitVec 3 := w.extractLsb' 8 3

/-- `din[7:0]` of the 11-bit operation word (30 R84). -/
def operationOperand (w : BitVec 11) : Byte := w.extractLsb' 0 8

/-- The 11-bit operation word `op ++ din` (30 R84). -/
def operationWord (op : BitVec 3) (din : Byte) : BitVec 11 := op ++ din

end Sys2Proof.Machine
end

