-- ==== Sys2Proof/Syntax.lean ====
section
/-! DEFINITION. The operations of the opcode table, one constructor per row of spec/opcode_table.json, and the
requests in which they reach the block. -/

namespace Sys2Proof

/-- One constructor per row of the opcode table, in the table's order. The row `CMD_ENC` stands there twice: as the
general form of a command frame (`cmdFrame`) and as the block operation (`cmdEnc`). -/
inductive Instr where
  | pwrOn            -- PWR_ON, 41 R121
  | pwrOff           -- PWR_OFF, 41 R122
  | z2PwrTgl         -- Z2_PWR_TGL, 41 R123
  | volUp            -- VOL_UP, 41 R124
  | volDn            -- VOL_DN, 41 R125
  | z2VolUp          -- Z2_VOL_UP, 41 R126
  | z2VolDn          -- Z2_VOL_DN, 41 R127
  | muteTgl          -- MUTE_TGL, 41 R128
  | z2MuteTgl        -- Z2_MUTE_TGL, 41 R129
  | toneDirectTgl    -- TONE_DIRECT_TGL, 41 R130
  | statusReq        -- STATUS_REQ, 41 R131
  | selFm            -- SEL_FM, 41 R132
  | selTuner         -- SEL_TUNER, 41 R133
  | selTunerAm       -- SEL_TUNER_AM, 41 R134
  | selCd            -- SEL_CD, 41 R135
  | selAux           -- SEL_AUX, 41 R136
  | selPhono         -- SEL_PHONO, 41 R137
  | selDvd           -- SEL_DVD, 41 R138
  | selTape          -- SEL_TAPE, 41 R139
  | z2SelFm          -- Z2SEL_FM, 41 R140
  | z2SelTuner       -- Z2SEL_TUNER, 41 R141
  | z2SelTunerAm     -- Z2SEL_TUNER_AM, 41 R142
  | z2SelCd          -- Z2SEL_CD, 41 R143
  | z2SelAux         -- Z2SEL_AUX, 41 R144
  | z2SelPhono       -- Z2SEL_PHONO, 41 R145
  | z2SelDvd         -- Z2SEL_DVD, 41 R146
  | z2SelTape        -- Z2SEL_TAPE, 41 R147
  | cmdFrame (opcode checksum : Byte)  -- CMD_ENC, format CMD, 30 R88, R89
  | nop              -- NOP, 40 R103
  | csClr            -- CS_CLR, 40 R104
  | csAdd (b : Byte) -- CS_ADD, 40 R105
  | cmdEnc (opcode : Byte)  -- CMD_ENC, format OP, 41 R120
  | fpStart          -- FP_START, 42 R163
  | fpByte (b : Byte)  -- FP_BYTE, 42 R164 to R168
  | fpEnd            -- FP_END, 42 R169, R170
  | reserved7        -- RESERVED_7, 40 R106
  | reset            -- RESET, 10_state R38
  deriving DecidableEq, Repr

/-- What one step samples at the port, in the three formats of the opcode table (30 R89).
`op` and `rst` hold the 11 bits `op[2:0] ++ din[7:0]` (30 R84), sampled with `rst = 0` and with `rst = 1`.
`frame` is the trace line `CMD_ENC <wire command>` (30 R87) written by the 32-bit word of the frame it emits
(30 R73); DESIGN CHOICE, log entry 2. -/
inductive Request where
  | op (word : BitVec 11)
  | rst (word : BitVec 11)
  | frame (word : BitVec 32)
  deriving DecidableEq, Repr

end Sys2Proof
end

