-- ==== Sys2Proof/WellFormed.lean ====
section
/-! DEFINITION. Which instructions and which requests are well formed. Every operand byte of every operation is legal
(30 R84, R85 item 2), so the checks are those of the command frame (30 R88). -/

namespace Sys2Proof

/-- A general command frame carries the checksum of its opcode (30 R88); nothing else can be ill formed. -/
def Instr.wellFormed : Instr → Bool
  | .cmdFrame o c => c == Machine.commandChecksum o
  | .pwrOn | .pwrOff | .z2PwrTgl | .volUp | .volDn | .z2VolUp | .z2VolDn | .muteTgl | .z2MuteTgl
  | .toneDirectTgl | .statusReq | .selFm | .selTuner | .selTunerAm | .selCd | .selAux | .selPhono
  | .selDvd | .selTape | .z2SelFm | .z2SelTuner | .z2SelTunerAm | .z2SelCd | .z2SelAux | .z2SelPhono
  | .z2SelDvd | .z2SelTape | .nop | .csClr | .csAdd _ | .cmdEnc _ | .fpStart | .fpByte _ | .fpEnd
  | .reserved7 | .reset => true

/-- A frame word is a command frame when its header is `81 73` and its last byte the checksum of its opcode (30 R88). -/
def frameWellFormed (w : BitVec 32) : Bool :=
  Machine.wordHeader w == Config.hdr0 ++ Config.hdr1
    && Machine.wordChecksum w == Machine.commandChecksum (Machine.wordOpcode w)

/-- Every operation word is legal (30 R84); a frame must be a command frame (30 R88). -/
def Request.wellFormed : Request → Bool
  | .op _ => true
  | .rst _ => true
  | .frame w => frameWellFormed w

end Sys2Proof
end

