-- ==== Sys2Proof/Decode.lean ====
section
/-! DEFINITION. The decoder, driven by the rows of spec/opcode_table.json as masks and patterns; the encoder, written
from the encodings of 30_encoding R73, R83, R84; and the host's table words. -/

namespace Sys2Proof

/-- One row of the opcode table: the bits it fixes, and the instruction its word stands for. -/
structure Row (n : Nat) where
  mask : BitVec n
  pattern : BitVec n
  make : BitVec n → Instr

/-- A word stands for a row when it has the row's bits wherever the mask is 1 (30 R89). -/
def rowMatches {n : Nat} (r : Row n) (w : BitVec n) : Bool := w &&& r.mask == r.pattern

/-- The rows of format CMD, in the table's order: 27 wire commands, then the general command frame (30 R83, R89). -/
def commandRows : List (Row 32) := [
  ⟨0xFFFFFFFF, 0x817301F5, fun _ => .pwrOn⟩,
  ⟨0xFFFFFFFF, 0x817302F6, fun _ => .pwrOff⟩,
  ⟨0xFFFFFFFF, 0x81733F33, fun _ => .z2PwrTgl⟩,
  ⟨0xFFFFFFFF, 0x81730F03, fun _ => .volUp⟩,
  ⟨0xFFFFFFFF, 0x81731004, fun _ => .volDn⟩,
  ⟨0xFFFFFFFF, 0x81734135, fun _ => .z2VolUp⟩,
  ⟨0xFFFFFFFF, 0x81734236, fun _ => .z2VolDn⟩,
  ⟨0xFFFFFFFF, 0x81731105, fun _ => .muteTgl⟩,
  ⟨0xFFFFFFFF, 0x81734337, fun _ => .z2MuteTgl⟩,
  ⟨0xFFFFFFFF, 0x81731509, fun _ => .toneDirectTgl⟩,
  ⟨0xFFFFFFFF, 0x81735347, fun _ => .statusReq⟩,
  ⟨0xFFFFFFFF, 0x817303F7, fun _ => .selFm⟩,
  ⟨0xFFFFFFFF, 0x817305F9, fun _ => .selTuner⟩,
  ⟨0xFFFFFFFF, 0x817306FA, fun _ => .selTunerAm⟩,
  ⟨0xFFFFFFFF, 0x817307FB, fun _ => .selCd⟩,
  ⟨0xFFFFFFFF, 0x817308FC, fun _ => .selAux⟩,
  ⟨0xFFFFFFFF, 0x817309FD, fun _ => .selPhono⟩,
  ⟨0xFFFFFFFF, 0x81730AFE, fun _ => .selDvd⟩,
  ⟨0xFFFFFFFF, 0x81730BFF, fun _ => .selTape⟩,
  ⟨0xFFFFFFFF, 0x81734135, fun _ => .z2SelFm⟩,
  ⟨0xFFFFFFFF, 0x81734337, fun _ => .z2SelTuner⟩,
  ⟨0xFFFFFFFF, 0x81734438, fun _ => .z2SelTunerAm⟩,
  ⟨0xFFFFFFFF, 0x81734539, fun _ => .z2SelCd⟩,
  ⟨0xFFFFFFFF, 0x8173463A, fun _ => .z2SelAux⟩,
  ⟨0xFFFFFFFF, 0x8173473B, fun _ => .z2SelPhono⟩,
  ⟨0xFFFFFFFF, 0x8173483C, fun _ => .z2SelDvd⟩,
  ⟨0xFFFFFFFF, 0x8173493D, fun _ => .z2SelTape⟩,
  ⟨0xFFFF0000, 0x81730000, fun w => .cmdFrame (Machine.wordOpcode w) (Machine.wordChecksum w)⟩]

/-- The rows of format OP (30 R84, R89). A row that does not use `din` drops it (93 U8). -/
def operationRows : List (Row 11) := [
  ⟨0x700, 0x000, fun _ => .nop⟩,
  ⟨0x700, 0x100, fun _ => .csClr⟩,
  ⟨0x700, 0x200, fun w => .csAdd (Machine.operationOperand w)⟩,
  ⟨0x700, 0x300, fun w => .cmdEnc (Machine.operationOperand w)⟩,
  ⟨0x700, 0x400, fun _ => .fpStart⟩,
  ⟨0x700, 0x500, fun w => .fpByte (Machine.operationOperand w)⟩,
  ⟨0x700, 0x600, fun _ => .fpEnd⟩,
  ⟨0x700, 0x700, fun _ => .reserved7⟩]

/-- Every row a request stands for, in the table's order: the relation of 30 R83, which is no function, since two
frames stand for two wire commands each. With `rst = 1` it is `RESET` whatever `op` and `din` are (10_state R38). -/
def decodeAll : Request → List Instr
  | .op w => (operationRows.filter (rowMatches · w)).map (·.make w)
  | .rst _ => [.reset]
  | .frame w => (commandRows.filter (rowMatches · w)).map (·.make w)

/-- Why a request stands for no row of the opcode table. -/
inductive DecodeError where
  /-- The 32-bit word does not begin with the bytes `81 73`: it is no command frame (30 R88). -/
  | notACommandFrame
  deriving DecidableEq, Repr

/-- The instruction a request is decoded to: the first row it stands for. Where two wire commands have one frame the
choice of name is without effect: the block performs `CMD_ENC` of the one opcode (41 R149; 90 C4).
DESIGN CHOICE, log entry 3. -/
def decode (r : Request) : Except DecodeError Instr :=
  match decodeAll r with
  | i :: _ => .ok i
  | [] => .error .notACommandFrame

/-- The wire opcode of each wire command (30 R83, 41 R121 to R147); none for every other instruction. -/
def wireOpcode : Instr → Option Byte
  | .pwrOn => some 0x01
  | .pwrOff => some 0x02
  | .z2PwrTgl => some 0x3F
  | .volUp => some 0x0F
  | .volDn => some 0x10
  | .z2VolUp => some 0x41
  | .z2VolDn => some 0x42
  | .muteTgl => some 0x11
  | .z2MuteTgl => some 0x43
  | .toneDirectTgl => some 0x15
  | .statusReq => some 0x53
  | .selFm => some 0x03
  | .selTuner => some 0x05
  | .selTunerAm => some 0x06
  | .selCd => some 0x07
  | .selAux => some 0x08
  | .selPhono => some 0x09
  | .selDvd => some 0x0A
  | .selTape => some 0x0B
  | .z2SelFm => some 0x41
  | .z2SelTuner => some 0x43
  | .z2SelTunerAm => some 0x44
  | .z2SelCd => some 0x45
  | .z2SelAux => some 0x46
  | .z2SelPhono => some 0x47
  | .z2SelDvd => some 0x48
  | .z2SelTape => some 0x49
  | .cmdFrame _ _ | .nop | .csClr | .csAdd _ | .cmdEnc _ | .fpStart | .fpByte _ | .fpEnd | .reserved7
  | .reset => none

/-- The frame word of a wire opcode: header, opcode, checksum, most significant first (30 R71, R73). -/
def commandWord (o : Byte) : BitVec 32 :=
  Machine.frameWord Config.hdr0 Config.hdr1 o (Machine.commandChecksum o)

/-- The encoder, from 30 R73 and R83 for frames and R84 for operations; a `din` that is ignored is written 0. -/
def encode (i : Instr) : Request :=
  match i with
  | .pwrOn => .frame (commandWord 0x01)
  | .pwrOff => .frame (commandWord 0x02)
  | .z2PwrTgl => .frame (commandWord 0x3F)
  | .volUp => .frame (commandWord 0x0F)
  | .volDn => .frame (commandWord 0x10)
  | .z2VolUp => .frame (commandWord 0x41)
  | .z2VolDn => .frame (commandWord 0x42)
  | .muteTgl => .frame (commandWord 0x11)
  | .z2MuteTgl => .frame (commandWord 0x43)
  | .toneDirectTgl => .frame (commandWord 0x15)
  | .statusReq => .frame (commandWord 0x53)
  | .selFm => .frame (commandWord 0x03)
  | .selTuner => .frame (commandWord 0x05)
  | .selTunerAm => .frame (commandWord 0x06)
  | .selCd => .frame (commandWord 0x07)
  | .selAux => .frame (commandWord 0x08)
  | .selPhono => .frame (commandWord 0x09)
  | .selDvd => .frame (commandWord 0x0A)
  | .selTape => .frame (commandWord 0x0B)
  | .z2SelFm => .frame (commandWord 0x41)
  | .z2SelTuner => .frame (commandWord 0x43)
  | .z2SelTunerAm => .frame (commandWord 0x44)
  | .z2SelCd => .frame (commandWord 0x45)
  | .z2SelAux => .frame (commandWord 0x46)
  | .z2SelPhono => .frame (commandWord 0x47)
  | .z2SelDvd => .frame (commandWord 0x48)
  | .z2SelTape => .frame (commandWord 0x49)
  | .cmdFrame o c => .frame (Machine.frameWord Config.hdr0 Config.hdr1 o c)
  | .nop => .op (Machine.operationWord 0 0)
  | .csClr => .op (Machine.operationWord 1 0)
  | .csAdd b => .op (Machine.operationWord 2 b)
  | .cmdEnc o => .op (Machine.operationWord 3 o)
  | .fpStart => .op (Machine.operationWord 4 0)
  | .fpByte b => .op (Machine.operationWord 5 b)
  | .fpEnd => .op (Machine.operationWord 6 0)
  | .reserved7 => .op (Machine.operationWord 7 0)
  | .reset => .rst 0

/-- The 25 wire opcodes that some wire command has (30 R83). -/
def namedOpcodes : List Byte :=
  [0x01, 0x02, 0x03, 0x05, 0x06, 0x07, 0x08, 0x09, 0x0A, 0x0B, 0x0F, 0x10, 0x11, 0x15, 0x3F,
   0x41, 0x42, 0x43, 0x44, 0x45, 0x46, 0x47, 0x48, 0x49, 0x53]

/-- The instruction is the first row of the table with its word: not the second name of a colliding frame
(30 R83), and not the general form of a frame that a wire command has. -/
def Instr.firstOfItsWord : Instr → Bool
  | .z2SelFm | .z2SelTuner => false
  | .cmdFrame o _ => !namedOpcodes.contains o
  | .pwrOn | .pwrOff | .z2PwrTgl | .volUp | .volDn | .z2VolUp | .z2VolDn | .muteTgl | .z2MuteTgl
  | .toneDirectTgl | .statusReq | .selFm | .selTuner | .selTunerAm | .selCd | .selAux | .selPhono
  | .selDvd | .selTape | .z2SelTunerAm | .z2SelCd | .z2SelAux | .z2SelPhono
  | .z2SelDvd | .z2SelTape | .nop | .csClr | .csAdd _ | .cmdEnc _ | .fpStart | .fpByte _ | .fpEnd
  | .reserved7 | .reset => true

/-- The three inputs of 10_state R32 that the port samples for a request: `rst`, `op`, `din`. A wire command's frame
is the operation `CMD_ENC` of its opcode (41 R121 to R147). -/
def portSample : Request → Bool × BitVec 3 × Byte
  | .op w => (false, Machine.operationSelect w, Machine.operationOperand w)
  | .rst w => (true, Machine.operationSelect w, Machine.operationOperand w)
  | .frame w => (false, 3, Machine.wordOpcode w)

/-- The dispatch of 10_state R42: the operation that a port sample asks for. -/
def sampledOperation : Bool × BitVec 3 × Byte → Instr
  | (true, _, _) => .reset
  | (false, op, din) =>
    match op.toNat with
    | 0 => .nop
    | 1 => .csClr
    | 2 => .csAdd din
    | 3 => .cmdEnc din
    | 4 => .fpStart
    | 5 => .fpByte din
    | 6 => .fpEnd
    | _ => .reserved7

/-- The request written in `nbits` bits of an opcode-table row, told apart by the width of the row's format: 32 bits a
command frame (CMD), 11 bits in two bytes an operation word (OP), one byte or none the row `RESET` (PIN), which has
no bit pattern (30 R89). DESIGN CHOICE, log entry 4. -/
def requestOfTable (nbits w : Nat) : Option Request :=
  if nbits ≤ 8 then some (.rst (BitVec.ofNat 11 w))
  else if nbits ≤ 16 then if w < 2 ^ 11 then some (.op (BitVec.ofNat 11 w)) else none
  else if nbits = 32 then if w < 2 ^ 32 then some (.frame (BitVec.ofNat 32 w)) else none
  else none

/-- The instruction the decoder reads from an opcode-table row's bits. -/
def decodeTableWord (nbits w : Nat) : Option Instr :=
  match requestOfTable nbits w with
  | some r => (decode r).toOption
  | none => none

end Sys2Proof
end

