-- ==== Sys2Proof/Machine/State.lean ====
section
/-! DEFINITION. The state: the block's nine elements (10_state R20), the outputs of the step just taken, the requests
that wait at the port, the host (44_host_session) and its transport; the faults and refusals; the state after reset. -/

namespace Sys2Proof.Machine

/-- The complete state of the block: nine elements and nothing else (10_state R20). -/
structure Block where
  /-- Running checksum (R21). -/
  acc : Byte
  /-- Shift register of the frame being received; hidden from the host (R22, R36). -/
  buf : Frame
  /-- Bytes shifted in since the last `FP_START`; hidden from the host (R23, R36). -/
  cnt : BitVec 5
  /-- A frame is being received (R24). -/
  busy : Bool
  /-- Result code of the last decode, `Config.resNone` to `Config.resChecksumMismatch` (R25). -/
  res : BitVec 3
  /-- The "actual" value of the last error (R26). -/
  errActual : Byte
  /-- The "expected" value of the last error (R26). -/
  errExpected : Byte
  /-- The last accepted frame (R27). -/
  lat : Frame
  /-- A frame has been accepted since reset (R28). -/
  latValid : Bool
  deriving DecidableEq, Repr

/-- The outputs of one step (10_state R33, R34; 60 R280). An absent value is an output whose `valid` is 0 (93 U4, U5).
The spec holds them for one step only; State keeps those of the step just taken. DESIGN CHOICE, log entry 5. -/
structure Output where
  /-- `cmd_out[0..3]` with `cmd_valid` (R33). -/
  cmdOut : Option CommandFrame
  /-- The completion strobe (R34). -/
  done : Bool
  /-- `trace_byte` with `trace_valid` (R280). -/
  trace : Option Byte
  deriving DecidableEq, Repr

/-- `cmd_valid`: this step presents a command frame (10_state R33). -/
def Output.cmdValid (o : Output) : Bool := o.cmdOut.isSome

/-- The closed enumeration of input sources (30 R77). -/
inductive InputSource where
  | fm | tuner | tunerAm | cd | aux | phono | dvd | tape
  deriving DecidableEq, Repr

/-- The eight flags of status byte 13, bit 0 first (30 R76). -/
inductive FlagName where
  | power | commandRequest | zone2Power | mute | zone2Mute | sleepMode | cinemaEq | toneDirect
  deriving DecidableEq, Repr

/-- What a getter returns after its refresh: which view it reads (44 R227, R236, R238, R240 to R243, R246). -/
inductive Query where
  | flag (f : FlagName)
  | volume
  | zone2Volume
  | text
  | input
  | zone2Input
  deriving DecidableEq, Repr

/-- The Device Session operations (44 R225 to R247). The argument of a selection is the caller's byte, checked by the
operation itself (R244). -/
inductive Call where
  | refresh
  | getPower
  | getZone2Power
  | setPower (on : Bool)
  | setZone2Power (on : Bool)
  | volumeUp (n : Nat)
  | volumeDown (n : Nat)
  | zone2VolumeUp
  | zone2VolumeDown
  | getMuted
  | setMuted (flag : Bool)
  | getZone2Muted
  | setZone2Muted (flag : Bool)
  | getVolume
  | getZone2Volume
  | getText
  | getInput
  | getZone2Input
  | setInput (src : Byte)
  | setZone2Input (src : Byte)
  | getToneDirect
  | setToneDirect (flag : Bool)
  deriving DecidableEq, Repr

/-- One action of the host within a Device Session operation, in the pseudocode's terms (44 §2, §3). -/
inductive HostAct where
  /-- Present one block operation. -/
  | issue (i : Instr)
  /-- `send(o)`: `CMD_ENC o`, and write `cmd_out` to the transport (R231). -/
  | send (o : Byte)
  /-- `raw <- read(20)`, then `FP_BYTE` of each byte and `FP_END` (R225). -/
  | read
  /-- `case res of`: go on, or raise (R225). -/
  | check
  /-- Return a view, or raise `InvalidEnumValue` (R227, R240 to R243). -/
  | give (q : Query)
  /-- `set_power`: send the opcode of the direction, or nothing (R228). -/
  | drivePower (on : Bool)
  /-- `if desired != current: send(o)` (R230). -/
  | toggleUnless (desired : Bool) (f : FlagName) (o : Byte)
  /-- Validate `src`, then send `src + base` (R244, R245). -/
  | select (src base : Byte)
  deriving DecidableEq, Repr

/-- The five error kinds with the values the host reports (44 R225, R242, R244; 60 R260). -/
inductive HostError where
  | shortFrame
  | unexpectedCount (actual expected : Byte)
  | checksumMismatch (actual expected : Byte)
  | invalidEnumValue (actual : Byte)
  | invalidArgument (src : Byte)
  deriving DecidableEq, Repr

/-- What a Device Session operation returns. -/
inductive HostValue where
  | nothing
  | flag (b : Bool)
  | level (v : Byte)
  | text (t : List Byte)
  | source (i : InputSource)
  deriving DecidableEq, Repr

/-- How a Device Session operation ended (44 R225, R249). -/
inductive HostResult where
  | returned (v : HostValue)
  | raised (e : HostError)
  deriving DecidableEq, Repr

/-- An operation in progress: which one, and the actions still to come. -/
structure Running where
  call : Call
  acts : List HostAct
  deriving DecidableEq, Repr

/-- The host: a single sequential agent that finishes each operation before it begins the next (44 R220, R250). -/
structure Session where
  /-- Operations not yet begun, in order. -/
  calls : List Call
  /-- The operation in progress. -/
  running : Option Running
  /-- How each finished operation ended, oldest first. -/
  results : List HostResult
  /-- `TONE_DIRECT_DOUBLE_REFRESH` (R247, 92 D26). -/
  doubleRefresh : Bool
  /-- `RETRY_POLICY`: the pairs (operation, error) that are retried (R251, 92 D27). -/
  retryOn : List (Call × HostError)
  deriving DecidableEq, Repr

/-- The transport `ByteChannel` as its contract shows it (44 R222 to R224). -/
structure Link where
  /-- Bytes in the transport's input, oldest first (70 R302). -/
  rx : List Byte
  /-- For each read to come, the bytes that arrive before it returns: any bytes at all (93 U15). -/
  arrivals : List (List Byte)
  /-- Every byte written so far, oldest first (44 R222). -/
  tx : List Byte
  deriving DecidableEq, Repr

structure State where
  /-- The block (10_state R20). -/
  block : Block
  /-- The outputs of the step just taken (10_state R33, R34). -/
  out : Output
  /-- Whether the optional trace outputs exist; no step changes it (93 U5). -/
  traceFitted : Bool
  /-- What the port will sample in the steps to come, first first: the operation trace of 00_scope R14. -/
  port : List Request
  /-- The host (44). -/
  session : Session
  /-- The host's transport (44 R221 to R224). -/
  link : Link
  deriving DecidableEq, Repr

/-- Why the machine stops. Only actions of the host stop; no operation of the block does (60 R262). -/
inductive Fault where
  /-- Raised by a host action that reads a view while `lat_valid = 0`. Safe: such a read "has no value" and a model
  must give it "a fault or a refusal, not zero" (10_state R39). -/
  | readInvalidLatch
  /-- Raised by the host's `case res of` when `res` is no outcome of a refresh. Safe: it "cannot occur after
  FP_START ... FP_END" (60 R282). -/
  | noRefreshResult
  deriving DecidableEq, Repr

/-- Why a request has no meaning. -/
inductive Refusal where
  /-- Raised by an arm of `exec` whose instruction has no meaning yet. Safe. -/
  | notModelled (mnemonic : String)
  /-- Raised by the step for a 32-bit request that does not begin with `81 73`. Safe: the block "has no behaviour for a
  malformed one" (30 R85 item 9). -/
  | notACommandFrame
  /-- Raised by the general command frame when its last byte is not the checksum of its opcode. Safe: "the block cannot
  emit one" (30 R85 item 9). -/
  | badCommandChecksum
  deriving DecidableEq, Repr

/-- Outputs of a step that presents nothing: `cmd_valid = 0`, `done = 0`, `trace_valid = 0`. -/
def Output.quiet : Output := { cmdOut := none, done := false, trace := none }

/-- The block after `RESET` (10_state R38, 70 R290). `buf` and `lat` hold the unknown constants of Config, as
"contents ... any value" asks (93 U1, U2). DESIGN CHOICE, log entry 6. -/
def Block.reset : Block where
  acc := 0
  buf := Vector.ofFn fun i => Config.powerUpBuf i
  cnt := 0
  busy := false
  res := Config.resNone
  errActual := 0
  errExpected := 0
  lat := Vector.ofFn fun i => Config.powerUpLat i
  latValid := false

/-- The machine right after reset: the block as 70 R290 says, its outputs quiet, the two open parameters of the host
at the defaults the spec states (92 D26, D27), the trace absent as 93 U5 says, and nothing asked of anyone yet.
DESIGN CHOICE, log entries 9, 10, 15. -/
def State.reset : State where
  block := Block.reset
  out := Output.quiet
  traceFitted := false
  port := []
  session := { calls := [], running := none, results := [], doubleRefresh := false, retryOn := [] }
  link := { rx := [], arrivals := [], tx := [] }

end Sys2Proof.Machine
end

