-- ==== Sys2Proof/Machine/Flags.lean ====
section
/-! DEFINITION. Flags. The block has no condition codes (10_state R31): its flag-like values are the eight flags of
status byte 13 (30 R76, 43 R195), the result codes (10_state R25) and the host's error codes (60 R260). -/

namespace Sys2Proof.Machine

/-- The bit of status byte 13 that holds a flag (30 R76). -/
def flagBit : FlagName → Nat
  | .power => 0
  | .commandRequest => 1
  | .zone2Power => 2
  | .mute => 3
  | .zone2Mute => 4
  | .sleepMode => 5
  | .cinemaEq => 6
  | .toneDirect => 7

/-- A flag is true when its bit is 1 (30 R76, 43 R195). -/
def flagOf (flags : Byte) (f : FlagName) : Bool := flags.getLsbD (flagBit f)

/-- The five error kinds in one code space, 2 to 6 (60 R260). -/
def errorCode : HostError → BitVec 3
  | .shortFrame => Config.resShortFrame
  | .unexpectedCount _ _ => Config.resUnexpectedCount
  | .checksumMismatch _ _ => Config.resChecksumMismatch
  | .invalidEnumValue _ => 5
  | .invalidArgument _ => 6

/-- `res` holds one of the block's three error codes (60 R260). -/
def isErrorCode (c : BitVec 3) : Bool :=
  c == Config.resShortFrame || c == Config.resUnexpectedCount || c == Config.resChecksumMismatch

end Sys2Proof.Machine
end

