-- ==== Sys2Proof/Machine/Operands.lean ====
section
/-! DEFINITION. How operands are assembled (30 R82): frame bytes by offset, multi-byte values, input sources, and the
wire opcodes of the selections. No operation takes an address or a register number (20 R50, 42 R175). -/

namespace Sys2Proof.Machine

/-- The frame bytes with offset `first` to `last` inclusive, in wire order (00_scope R12). -/
def frameBytes (f : Frame) (first last : Nat) : List Byte := (f.toList.drop first).take (last + 1 - first)

/-- The bytes the status checksum covers, offsets 2 to 18 (30 R79). -/
def summedBytes (f : Frame) : List Byte := frameBytes f 2 18

/-- A byte sequence as a number, least significant byte first (20 R53). -/
def littleEndian : List Byte → Nat
  | [] => 0
  | b :: bs => b.toNat + 256 * littleEndian bs

/-- `MemRead(addr, n)`: little-endian read of `n` frame bytes, defined only inside the frame (00_scope R13). -/
def memRead (f : Frame) (addr n : Nat) : Option Nat :=
  if addr + n ≤ 20 then some (littleEndian ((f.toList.drop addr).take n)) else none

/-- `MemWrite(addr, n, v)`: defined for completeness, used by no rule (00_scope R13). -/
def memWrite (f : Frame) (addr n v : Nat) : Option Frame :=
  if addr + n ≤ 20 then
    some (Vector.ofFn fun i : Fin 20 =>
      if addr ≤ i.val ∧ i.val < addr + n then low8 (v / 256 ^ (i.val - addr)) else f[i])
  else none

/-- The byte of an input source (30 R77). -/
def sourceByte : InputSource → Byte
  | .fm => 0
  | .tuner => 2
  | .tunerAm => 3
  | .cd => 4
  | .aux => 5
  | .phono => 6
  | .dvd => 7
  | .tape => 8

/-- The input source of a byte, if it is a member (30 R77, 43 R198). -/
def sourceOf (v : Byte) : Option InputSource :=
  match v.toNat with
  | 0 => some .fm
  | 2 => some .tuner
  | 3 => some .tunerAm
  | 4 => some .cd
  | 5 => some .aux
  | 6 => some .phono
  | 7 => some .dvd
  | 8 => some .tape
  | _ => none

/-- `is_source(v)`: `v <= 8 and v != 1` (43 R197). -/
def isSource (v : Byte) : Bool := v.toNat ≤ 8 && v.toNat != 1

/-- The wire opcode that selects an input: `src` plus the base of the zone (30 R82, 44 R244, R245). -/
def selectOpcode (src base : Byte) : Byte := src + base

end Sys2Proof.Machine
end

