-- ==== Sys2Proof/Machine/Ops.lean ====
section
/-! DEFINITION. The named operations the meanings share: ending a step, presenting a command frame, shifting a byte in,
recording an error (the block's whole "exception entry", 60 R265), and completing a frame (42 R166 to R168). -/

namespace Sys2Proof.Machine

/-- A step's answer: the block's new elements and this step's outputs; nothing outside the block changes. -/
def State.after (s : State) (b : Block) (o : Output) : State := { s with block := b, out := o }

/-- A step that leaves the block as it is and presents nothing (40 R103). -/
def keepAll (s : State) : Host.Outcome State Fault Refusal := .next (s.after s.block Output.quiet)

/-- `emit [0x81, 0x73, o, low8(0x81 + 0x73 + o)]` (00_scope R13, 41 R120): no element of the block changes. -/
def emitCommand (o : Byte) (s : State) : Host.Outcome State Fault Refusal :=
  .next (s.after s.block { cmdOut := some (commandFrame o), done := false, trace := none })

/-- The shift: every byte one place toward index 0, the new byte at index 19 (42 R165). -/
def shiftFrame (f : Frame) (b : Byte) : Frame :=
  Vector.mk (f.toList.tail ++ [b]).toArray (by simp)

/-- `raise E(actual, expected)`: the error recorded, the parser idle, nothing else changed (60 R265). There is no return
from it (60 R268): the record stays until `startFrame` or `RESET`. -/
def raiseError (code : BitVec 3) (actual expected : Byte) (b : Block) : Block :=
  { b with res := code, errActual := actual, errExpected := expected, busy := false }

/-- The element part of `FP_START` (42 R163). -/
def startFrame (b : Block) : Block :=
  { b with busy := true, cnt := 0, res := Config.resNone, errActual := 0, errExpected := 0 }

/-- The latch of an accepted frame: all twenty bytes in one step (42 R168). -/
def latchFrame (b : Block) : Block :=
  { b with lat := b.buf, latValid := true, res := Config.resOk, busy := false, cnt := 0 }

/-- What the 20th byte does once it has been shifted in: the count test, then the checksum test, then the latch
(42 R166, R167, R168; the order is 60 R266's). -/
def completeFrame (b : Block) : Block :=
  if b.buf[2] ≠ Config.countExpected then
    { raiseError Config.resUnexpectedCount b.buf[2] Config.countExpected b with cnt := 0 }
  else if csum8 (summedBytes b.buf) ≠ b.buf[19] then
    { raiseError Config.resChecksumMismatch b.buf[19] (csum8 (summedBytes b.buf)) b with cnt := 0 }
  else latchFrame b

/-- The block after an accepted byte: the shift in every case; below 19 the count goes up; at 19 the frame completes
(42 R165 to R168). A count above 19 is never held while `busy = 1` (10_state R40 item 1); the shift of R165 is then all
that any rule says. DEDUCED, log entry 16. -/
def acceptByte (byte : Byte) (b : Block) : Block :=
  if b.cnt.toNat ≤ 18 then { b with buf := shiftFrame b.buf byte, cnt := b.cnt + 1 }
  else if b.cnt.toNat = 19 then completeFrame { b with buf := shiftFrame b.buf byte }
  else { b with buf := shiftFrame b.buf byte }

/-- The frame completes with this byte: `done = 1` (10_state R34). -/
def completesFrame (b : Block) : Bool := b.busy && b.cnt.toNat == 19

/-- The trace of an accepted byte, when the trace is fitted (60 R280). -/
def traceOf (s : State) (byte : Byte) : Option Byte := if s.traceFitted then some byte else none

end Sys2Proof.Machine
end

