-- ==== Sys2Proof/Machine/Encoder.lean ====
section
/-! DEFINITION. The command encoder: `CMD_ENC` (41 R120), the general command frame (30 R88), and the 27 wire commands, each
`CMD_ENC` of a fixed opcode (41 R121 to R147). -/

namespace Sys2Proof.Machine

/-- `CMD_ENC o`: frames any opcode, changes no element (41 R120). -/
def execCmdEnc (o : Byte) (s : State) : Host.Outcome State Fault Refusal := emitCommand o s

/-- The general command frame: `CMD_ENC` of its opcode (30 R89); with another last byte than the opcode's checksum it is no
frame the block can emit (30 R85 item 9, R88). -/
def execCmdFrame (o c : Byte) (s : State) : Host.Outcome State Fault Refusal :=
  if c = commandChecksum o then emitCommand o s else .refused .badCommandChecksum

/-- `PWR_ON`: `CMD_ENC 0x01` (41 R121). -/
def execPwrOn (s : State) : Host.Outcome State Fault Refusal := emitCommand 0x01 s

/-- `PWR_OFF`: `CMD_ENC 0x02` (41 R122). -/
def execPwrOff (s : State) : Host.Outcome State Fault Refusal := emitCommand 0x02 s

/-- `Z2_PWR_TGL`: `CMD_ENC 0x3F` (41 R123). -/
def execZ2PwrTgl (s : State) : Host.Outcome State Fault Refusal := emitCommand 0x3F s

/-- `VOL_UP`: `CMD_ENC 0x0F` (41 R124). -/
def execVolUp (s : State) : Host.Outcome State Fault Refusal := emitCommand 0x0F s

/-- `VOL_DN`: `CMD_ENC 0x10` (41 R125). -/
def execVolDn (s : State) : Host.Outcome State Fault Refusal := emitCommand 0x10 s

/-- `Z2_VOL_UP`: `CMD_ENC 0x41` (41 R126). -/
def execZ2VolUp (s : State) : Host.Outcome State Fault Refusal := emitCommand 0x41 s

/-- `Z2_VOL_DN`: `CMD_ENC 0x42` (41 R127). -/
def execZ2VolDn (s : State) : Host.Outcome State Fault Refusal := emitCommand 0x42 s

/-- `MUTE_TGL`: `CMD_ENC 0x11` (41 R128). -/
def execMuteTgl (s : State) : Host.Outcome State Fault Refusal := emitCommand 0x11 s

/-- `Z2_MUTE_TGL`: `CMD_ENC 0x43` (41 R129). -/
def execZ2MuteTgl (s : State) : Host.Outcome State Fault Refusal := emitCommand 0x43 s

/-- `TONE_DIRECT_TGL`: `CMD_ENC 0x15` (41 R130). -/
def execToneDirectTgl (s : State) : Host.Outcome State Fault Refusal := emitCommand 0x15 s

/-- `STATUS_REQ`: `CMD_ENC 0x53` (41 R131). -/
def execStatusReq (s : State) : Host.Outcome State Fault Refusal := emitCommand 0x53 s

/-- `SEL_FM`: `CMD_ENC 0x03` (41 R132). -/
def execSelFm (s : State) : Host.Outcome State Fault Refusal := emitCommand 0x03 s

/-- `SEL_TUNER`: `CMD_ENC 0x05` (41 R133). -/
def execSelTuner (s : State) : Host.Outcome State Fault Refusal := emitCommand 0x05 s

/-- `SEL_TUNER_AM`: `CMD_ENC 0x06` (41 R134). -/
def execSelTunerAm (s : State) : Host.Outcome State Fault Refusal := emitCommand 0x06 s

/-- `SEL_CD`: `CMD_ENC 0x07` (41 R135). -/
def execSelCd (s : State) : Host.Outcome State Fault Refusal := emitCommand 0x07 s

/-- `SEL_AUX`: `CMD_ENC 0x08` (41 R136). -/
def execSelAux (s : State) : Host.Outcome State Fault Refusal := emitCommand 0x08 s

/-- `SEL_PHONO`: `CMD_ENC 0x09` (41 R137). -/
def execSelPhono (s : State) : Host.Outcome State Fault Refusal := emitCommand 0x09 s

/-- `SEL_DVD`: `CMD_ENC 0x0A` (41 R138). -/
def execSelDvd (s : State) : Host.Outcome State Fault Refusal := emitCommand 0x0A s

/-- `SEL_TAPE`: `CMD_ENC 0x0B` (41 R139). -/
def execSelTape (s : State) : Host.Outcome State Fault Refusal := emitCommand 0x0B s

/-- `Z2SEL_FM`: `CMD_ENC 0x41` (41 R140). -/
def execZ2SelFm (s : State) : Host.Outcome State Fault Refusal := emitCommand 0x41 s

/-- `Z2SEL_TUNER`: `CMD_ENC 0x43` (41 R141). -/
def execZ2SelTuner (s : State) : Host.Outcome State Fault Refusal := emitCommand 0x43 s

/-- `Z2SEL_TUNER_AM`: `CMD_ENC 0x44` (41 R142). -/
def execZ2SelTunerAm (s : State) : Host.Outcome State Fault Refusal := emitCommand 0x44 s

/-- `Z2SEL_CD`: `CMD_ENC 0x45` (41 R143). -/
def execZ2SelCd (s : State) : Host.Outcome State Fault Refusal := emitCommand 0x45 s

/-- `Z2SEL_AUX`: `CMD_ENC 0x46` (41 R144). -/
def execZ2SelAux (s : State) : Host.Outcome State Fault Refusal := emitCommand 0x46 s

/-- `Z2SEL_PHONO`: `CMD_ENC 0x47` (41 R145). -/
def execZ2SelPhono (s : State) : Host.Outcome State Fault Refusal := emitCommand 0x47 s

/-- `Z2SEL_DVD`: `CMD_ENC 0x48` (41 R146). -/
def execZ2SelDvd (s : State) : Host.Outcome State Fault Refusal := emitCommand 0x48 s

/-- `Z2SEL_TAPE`: `CMD_ENC 0x49` (41 R147). -/
def execZ2SelTape (s : State) : Host.Outcome State Fault Refusal := emitCommand 0x49 s

end Sys2Proof.Machine
end

