-- ==== Sys2Proof/Machine/Generator.lean ====
section
/-! DEFINITION. The checksum generator's operations, and the two that do nothing (40 R103 to R106). -/

namespace Sys2Proof.Machine

/-- `NOP` (40 R103). -/
def execNop (s : State) : Host.Outcome State Fault Refusal := keepAll s

/-- `CS_CLR`: `acc <- 0` (40 R104). -/
def execCsClr (s : State) : Host.Outcome State Fault Refusal :=
  .next (s.after { s.block with acc := 0 } Output.quiet)

/-- `CS_ADD b`: `acc <- low8(acc + b)`, the carry discarded (40 R105). -/
def execCsAdd (b : Byte) (s : State) : Host.Outcome State Fault Refusal :=
  .next (s.after { s.block with acc := low8 (s.block.acc.toNat + b.toNat) } Output.quiet)

/-- The reserved operation, `op = 7`: as `NOP` (40 R106, 93 U7). -/
def execReserved7 (s : State) : Host.Outcome State Fault Refusal := keepAll s

end Sys2Proof.Machine
end

