-- ==== Sys2Proof/Machine/Parser.lean ====
section
/-! DEFINITION. The frame parser's operations (42 R163 to R170) and `RESET` (10_state R38). -/

namespace Sys2Proof.Machine

/-- `FP_START`, accepted in both phases (42 R163). -/
def execFpStart (s : State) : Host.Outcome State Fault Refusal :=
  .next (s.after (startFrame s.block) Output.quiet)

/-- `FP_BYTE b`: dropped while idle (42 R164); while receiving, accepted (42 R165 to R168) and traced (60 R280). -/
def execFpByte (b : Byte) (s : State) : Host.Outcome State Fault Refusal :=
  if s.block.busy then
    .next (s.after (acceptByte b s.block)
      { cmdOut := none, done := completesFrame s.block, trace := traceOf s b })
  else keepAll s

/-- `FP_END`: while receiving, the short frame, decided from `cnt` alone (42 R169); while idle nothing (42 R170). -/
def execFpEnd (s : State) : Host.Outcome State Fault Refusal :=
  if s.block.busy then
    .next (s.after
      (raiseError Config.resShortFrame (s.block.cnt.setWidth 8) (low8 Config.frameLen) s.block)
      { cmdOut := none, done := true, trace := none })
  else keepAll s

/-- `RESET`: every element but `buf` and `lat`, which it leaves in place; what they hold may be relied on by no view
until a new frame is accepted (10_state R38, R39; 70 R290). DEDUCED, log entry 7. -/
def execReset (s : State) : Host.Outcome State Fault Refusal :=
  .next (s.after
    { s.block with
      acc := 0, cnt := 0, busy := false, res := Config.resNone, errActual := 0, errExpected := 0,
      latValid := false }
    Output.quiet)

end Sys2Proof.Machine
end

