-- ==== Sys2Proof/Machine/Dispatch.lean ====
section
/-! DEFINITION. One arm per row of the opcode table (10_state R42, 41 R121 to R147). -/

namespace Sys2Proof.Machine

def exec (i : Instr) (s : State) : Host.Outcome State Fault Refusal :=
  match i with
  | .pwrOn => Sys2Proof.Machine.execPwrOn s
  | .pwrOff => Sys2Proof.Machine.execPwrOff s
  | .z2PwrTgl => Sys2Proof.Machine.execZ2PwrTgl s
  | .volUp => Sys2Proof.Machine.execVolUp s
  | .volDn => Sys2Proof.Machine.execVolDn s
  | .z2VolUp => Sys2Proof.Machine.execZ2VolUp s
  | .z2VolDn => Sys2Proof.Machine.execZ2VolDn s
  | .muteTgl => Sys2Proof.Machine.execMuteTgl s
  | .z2MuteTgl => Sys2Proof.Machine.execZ2MuteTgl s
  | .toneDirectTgl => Sys2Proof.Machine.execToneDirectTgl s
  | .statusReq => Sys2Proof.Machine.execStatusReq s
  | .selFm => Sys2Proof.Machine.execSelFm s
  | .selTuner => Sys2Proof.Machine.execSelTuner s
  | .selTunerAm => Sys2Proof.Machine.execSelTunerAm s
  | .selCd => Sys2Proof.Machine.execSelCd s
  | .selAux => Sys2Proof.Machine.execSelAux s
  | .selPhono => Sys2Proof.Machine.execSelPhono s
  | .selDvd => Sys2Proof.Machine.execSelDvd s
  | .selTape => Sys2Proof.Machine.execSelTape s
  | .z2SelFm => Sys2Proof.Machine.execZ2SelFm s
  | .z2SelTuner => Sys2Proof.Machine.execZ2SelTuner s
  | .z2SelTunerAm => Sys2Proof.Machine.execZ2SelTunerAm s
  | .z2SelCd => Sys2Proof.Machine.execZ2SelCd s
  | .z2SelAux => Sys2Proof.Machine.execZ2SelAux s
  | .z2SelPhono => Sys2Proof.Machine.execZ2SelPhono s
  | .z2SelDvd => Sys2Proof.Machine.execZ2SelDvd s
  | .z2SelTape => Sys2Proof.Machine.execZ2SelTape s
  | .cmdFrame o c => Sys2Proof.Machine.execCmdFrame o c s
  | .nop => Sys2Proof.Machine.execNop s
  | .csClr => Sys2Proof.Machine.execCsClr s
  | .csAdd b => Sys2Proof.Machine.execCsAdd b s
  | .cmdEnc o => Sys2Proof.Machine.execCmdEnc o s
  | .fpStart => Sys2Proof.Machine.execFpStart s
  | .fpByte b => Sys2Proof.Machine.execFpByte b s
  | .fpEnd => Sys2Proof.Machine.execFpEnd s
  | .reserved7 => Sys2Proof.Machine.execReserved7 s
  | .reset => Sys2Proof.Machine.execReset s

end Sys2Proof.Machine
end

