-- ==== Sys2Proof/Machine/Views.lean ====
section
/-! DEFINITION. Field extraction: the views of the latched status frame (43_field_extraction). A view is a pure function
of the frame; it has a value only while `lat_valid = 1` (43 R190). -/

namespace Sys2Proof.Machine

/-- `system_id = MemRead(0, 2)`, little-endian, 16 bits (43 R191). -/
def viewSystemId (f : Frame) : BitVec 16 := BitVec.ofNat 16 (f[0].toNat + 256 * f[1].toNat)
/-- `count = lat[2]` (43 R192). -/
def viewCount (f : Frame) : Byte := f[2]
/-- `text[i] = lat[3 + i]`, ten bytes unchanged (43 R193). -/
def viewText (f : Frame) : List Byte := frameBytes f 3 12
/-- `flags = lat[13]` (43 R194). -/
def viewFlags (f : Frame) : Byte := f[13]
/-- The eight flag views (43 R195). -/
def viewFlag (k : FlagName) (f : Frame) : Bool := flagOf (viewFlags f) k
/-- `input_raw = lat[14]` (43 R196). -/
def viewInputRaw (f : Frame) : Byte := f[14]
/-- `zone2_input_raw = lat[15]` (43 R196). -/
def viewZone2InputRaw (f : Frame) : Byte := f[15]
/-- `input_valid` (43 R197). -/
def viewInputValid (f : Frame) : Bool := isSource (viewInputRaw f)
/-- `zone2_input_valid` (43 R197). -/
def viewZone2InputValid (f : Frame) : Bool := isSource (viewZone2InputRaw f)

/-- The value of an input view: a member of the enumeration, or the byte that is none (43 R198). -/
inductive Selected where
  | member (s : InputSource)
  | notAMember (raw : Byte)
  deriving DecidableEq, Repr

/-- A selector byte decoded (43 R198, R199). -/
def selectedOf (raw : Byte) : Selected :=
  match sourceOf raw with
  | some s => .member s
  | none => .notAMember raw

/-- `input` (43 R198). -/
def viewInput (f : Frame) : Selected := selectedOf (viewInputRaw f)
/-- `zone2_input` (43 R199). -/
def viewZone2Input (f : Frame) : Selected := selectedOf (viewZone2InputRaw f)
/-- `volume = lat[16]`, not range checked (43 R201). -/
def viewVolume (f : Frame) : Byte := f[16]
/-- `zone2_volume = lat[17]` (43 R202). -/
def viewZone2Volume (f : Frame) : Byte := f[17]

/-- The decibels of a level, `level - 76`, defined for 0 to 90 only (43 R203, 93 U6). -/
def levelDb (level : Byte) : Option Int :=
  if level.toNat ≤ Config.volMax then some ((level.toNat : Int) + Config.volOffsetDb) else none

/-- `volume_db` (43 R203). -/
def viewVolumeDb (f : Frame) : Option Int := levelDb (viewVolume f)
/-- `zone2_volume_db` (43 R203). -/
def viewZone2VolumeDb (f : Frame) : Option Int := levelDb (viewZone2Volume f)
/-- `rsvd18 = lat[18]` (43 R204). -/
def viewRsvd18 (f : Frame) : Byte := f[18]
/-- `checksum = lat[19]` (43 R205). -/
def viewChecksum (f : Frame) : Byte := f[19]

/-- The latched frame as the host may read it: none while `lat_valid = 0` (10_state R39, 43 R190, 93 U2). -/
def Block.latched (b : Block) : Option Frame := if b.latValid then some b.lat else none

/-- What the host can read of the block (10_state R35): every output but the step's own; `buf` and `cnt` are hidden
(R36), and the latch is readable only while it is valid. -/
structure Readable where
  acc : Byte
  busy : Bool
  res : BitVec 3
  errActual : Byte
  errExpected : Byte
  latched : Option Frame
  deriving DecidableEq, Repr

/-- The host-readable outputs of a state; reading them changes nothing (20 R59). -/
def Block.readable (b : Block) : Readable where
  acc := b.acc
  busy := b.busy
  res := b.res
  errActual := b.errActual
  errExpected := b.errExpected
  latched := b.latched

end Sys2Proof.Machine
end

