-- ==== Sys2Proof/Machine/Session.lean ====
section
/-! DEFINITION. The host (44_host_session): the transport's two operations, the expansion of each Device Session operation
into actions, and the effect of each action. An action that presents no block operation is a step in which the port
samples `NOP` (40 R103, 70 R311). DESIGN CHOICE, log entry 11. -/

namespace Sys2Proof.Machine

/-- `write(bytes)`: the bytes go out in order; writes succeed (44 R222, 93 U20). Log entry 13. -/
def Link.write (l : Link) (bytes : List Byte) : Link := { l with tx := l.tx ++ bytes }

/-- What the transport's input holds when the next read returns: the bytes already there, then those that arrive
before its timeout (44 R223, R224; 70 R302). -/
def Link.available (l : Link) : List Byte := l.rx ++ l.arrivals.headD []

/-- `read(n)`: the first `n` bytes there are, or fewer at the timeout; the rest stays in the input (44 R223, R224;
70 R302). Log entry 14. -/
def Link.read (l : Link) (n : Nat) : List Byte × Link :=
  (l.available.take n, { l with rx := l.available.drop n, arrivals := l.arrivals.tail })

/-- `refresh()` up to its `case` (44 R225). `FP_START` before the `send`: the rule allows either order. -/
def refreshActs : List HostAct :=
  [.issue .fpStart, .send Config.statusRequestOpcode, .read, .check]

/-- The expansion of each Device Session operation (44 R225 to R247). -/
def expandCall (doubleRefresh : Bool) : Call → List HostAct
  | .refresh => refreshActs
  | .getPower => refreshActs ++ [.give (.flag .power)]
  | .getZone2Power => refreshActs ++ [.give (.flag .zone2Power)]
  | .setPower on => refreshActs ++ [.drivePower on]
  | .setZone2Power on => refreshActs ++ [.toggleUnless on .zone2Power 0x3F]
  | .volumeUp n => List.replicate n (.send 0x0F)
  | .volumeDown n => List.replicate n (.send 0x10)
  | .zone2VolumeUp => [.send 0x41]
  | .zone2VolumeDown => [.send 0x42]
  | .getMuted => refreshActs ++ [.give (.flag .mute)]
  | .setMuted flag => refreshActs ++ [.toggleUnless flag .mute 0x11]
  | .getZone2Muted => refreshActs ++ [.give (.flag .zone2Mute)]
  | .setZone2Muted flag => refreshActs ++ [.toggleUnless flag .zone2Mute 0x43]
  | .getVolume => refreshActs ++ [.give .volume]
  | .getZone2Volume => refreshActs ++ [.give .zone2Volume]
  | .getText => refreshActs ++ [.give .text]
  | .getInput => refreshActs ++ [.give .input]
  | .getZone2Input => refreshActs ++ [.give .zone2Input]
  | .setInput src => [.select src Config.selBase]
  | .setZone2Input src => [.select src Config.z2selBase]
  | .getToneDirect => refreshActs ++ [.give (.flag .toneDirect)]
  | .setToneDirect flag =>
    refreshActs ++ (if doubleRefresh then refreshActs else []) ++ [.toggleUnless flag .toneDirect 0x15]

/-- The host goes on with the actions given. -/
def State.proceed (s : State) (c : Call) (acts : List HostAct) : State :=
  { s with session := { s.session with running := some { call := c, acts := acts } } }

/-- The running operation ends: its result is added, and no operation is in progress (44 R220, R249). -/
def State.finish (s : State) (r : HostResult) : State :=
  { s with session := { s.session with running := none, results := s.session.results ++ [r] } }

/-- A host error ends the operation at once and drops its remaining actions (44 R226, R249), unless `RETRY_POLICY`
says to begin it again (44 R251; log entry 15). -/
def State.raiseHost (s : State) (c : Call) (e : HostError) : State :=
  if (c, e) ∈ s.session.retryOn then s.proceed c (expandCall s.session.doubleRefresh c)
  else s.finish (.raised e)

/-- `case res of` after a refresh: none for `OK`, else the error (44 R225, 60 R282). The outer `none` is a `res` that no
refresh leaves. -/
def refreshOutcome (b : Block) : Option (Option HostError) :=
  if b.res = Config.resOk then some none
  else if b.res = Config.resShortFrame then some (some .shortFrame)
  else if b.res = Config.resUnexpectedCount then
    some (some (.unexpectedCount b.errActual b.errExpected))
  else if b.res = Config.resChecksumMismatch then
    some (some (.checksumMismatch b.errActual b.errExpected))
  else none

/-- A selector's value, or `InvalidEnumValue` with the byte as received (44 R242). -/
def selectedResult : Selected → Except HostError HostValue
  | .member i => .ok (.source i)
  | .notAMember raw => .error (.invalidEnumValue raw)

/-- What a getter answers on a readable frame (44 R227, R236, R238, R240 to R243, R246). -/
def answerQuery (q : Query) (f : Frame) : Except HostError HostValue :=
  match q with
  | .flag k => .ok (.flag (viewFlag k f))
  | .volume => .ok (.level (viewVolume f))
  | .zone2Volume => .ok (.level (viewZone2Volume f))
  | .text => .ok (.text (viewText f))
  | .input => selectedResult (viewInput f)
  | .zone2Input => selectedResult (viewZone2Input f)

/-- `set_power`: the opcode of the direction, or nothing (44 R228). -/
def drivePowerActs (on : Bool) (f : Frame) : List HostAct :=
  if on && !viewFlag .power f then [.send 0x01]
  else if !on && viewFlag .power f then [.send 0x02]
  else []

/-- The read-modify-write of a toggle: send it only if the desired value differs (44 R230). -/
def toggleActs (desired : Bool) (k : FlagName) (o : Byte) (f : Frame) : List HostAct :=
  if desired != viewFlag k f then [.send o] else []

/-- The host takes `cmd_out` in the step that presents it and writes it, `cmd_out[0]` first (44 R231, 70 R298). -/
def State.writeCommand (s : State) : State :=
  { s with link := s.link.write ((s.out.cmdOut.map Vector.toList).getD []) }

/-- The step of `send(o)`: `CMD_ENC o` at the port, its frame to the transport (44 R231). -/
def sendStep (o : Byte) (s : State) : Host.Outcome State Fault Refusal :=
  match exec (.cmdEnc o) s with
  | .next t => .next t.writeCommand
  | .fault r => .fault r
  | .refused r => .refused r

/-- The step in which the host reads a view: none exists while `lat_valid = 0` (10_state R39; log entry 8). -/
def viewStep (s : State) (act : Frame → State) : Host.Outcome State Fault Refusal :=
  match s.block.latched with
  | some f => exec .nop (act f)
  | none => .fault .readInvalidLatch

/-- One action of the host, with the actions `rest` after it (44 R225, R228 to R231, R242 to R245). -/
def hostAct (c : Call) (a : HostAct) (rest : List HostAct) (s : State) : Host.Outcome State Fault Refusal :=
  match a with
  | .issue i => exec i (s.proceed c rest)
  | .send o => sendStep o (s.proceed c rest)
  | .read =>
    let got := s.link.read Config.frameLen
    exec .nop
      { s.proceed c (got.1.map (fun b => .issue (.fpByte b)) ++ .issue .fpEnd :: rest) with link := got.2 }
  | .check =>
    match refreshOutcome s.block with
    | some none => exec .nop (s.proceed c rest)
    | some (some e) => exec .nop (s.raiseHost c e)
    | none => .fault .noRefreshResult
  | .give q =>
    viewStep s fun f =>
      match answerQuery q f with
      | .ok v => s.finish (.returned v)
      | .error e => s.raiseHost c e
  | .drivePower on => viewStep s fun f => s.proceed c (drivePowerActs on f ++ rest)
  | .toggleUnless d k o => viewStep s fun f => s.proceed c (toggleActs d k o f ++ rest)
  | .select src base =>
    if isSource src then exec .nop (s.proceed c (.send (selectOpcode src base) :: rest))
    else exec .nop (s.raiseHost c (.invalidArgument src))

/-- The host's step: the next action of the running operation; the end of it when no action is left; else the next
operation is begun, one at a time (44 R220, R250). An idle host presents `NOP` (log entry 12). -/
def hostStep (s : State) : Host.Outcome State Fault Refusal :=
  match s.session.running with
  | some { call := c, acts := a :: rest } => hostAct c a rest s
  | some { call := _, acts := [] } => exec .nop (s.finish (.returned .nothing))
  | none =>
    match s.session.calls with
    | c :: cs =>
      exec .nop
        { s with session :=
            { s.session with
              calls := cs
              running := some { call := c, acts := expandCall s.session.doubleRefresh c } } }
    | [] => exec .nop s

end Sys2Proof.Machine
end

