-- ==== Sys2Proof/Machine/Fetch.lean ====
section
/-! DEFINITION. What the port samples in a step: the first waiting request, decoded and performed, else the host's own next
action (10_state R42; 00_scope R14). -/

namespace Sys2Proof.Machine

/-- Perform one request taken from the port's queue (10_state R42; log entries 1, 2). -/
def runRequest (r : Request) (s : State) : Host.Outcome State Fault Refusal :=
  match decode r with
  | .ok i => exec i s
  | .error .notACommandFrame => .refused .notACommandFrame

/-- The step function over the requests that wait at the port, and the host behind them. -/
def portStep (s : State) : Host.Outcome State Fault Refusal :=
  match s.port with
  | r :: rest => runRequest r { s with port := rest }
  | [] => hostStep s

/-- A request put in front of the port's queue: the next step performs it. -/
def State.withRequest (s : State) (r : Request) : State := { s with port := r :: s.port }

/-- The request of an opcode-table word; a width or a word that no format has stands for a word that is no command frame,
which the step refuses by name (log entry 4). -/
def fetchRequest (nbits w : Nat) : Request :=
  match requestOfTable nbits w with
  | some r => r
  | none => .frame 0

end Sys2Proof.Machine
end

