-- ==== Sys2Proof/Machine/Step.lean ====
section
/-! DEFINITION. One step of the machine. -/

namespace Sys2Proof.Machine

/-- One step: one operation of the block, and what the host does with it (10_state R42, 44 R220). -/
def step (s : State) : Host.Outcome State Fault Refusal := portStep s

/-- An opcode-table word placed where the next step takes its operation: in front of the port's queue. -/
def State.withFetchWord (s : State) (nbits w : Nat) : State := s.withRequest (fetchRequest nbits w)

end Sys2Proof.Machine
end

