-- ==== Sys2Proof/Machine/Reference.lean ====
section
/-! DEFINITION. The source's `decode_status` as a pure function (42 R160), and runs: of operations, of port samples and of
steps. -/

namespace Sys2Proof.Machine

/-- The result of `decode_status` (42 R160). -/
inductive StatusResult where
  | accepted (f : Frame)
  | shortFrame (actual expected : Nat)
  | unexpectedCount (actual expected : Byte)
  | checksumMismatch (actual expected : Byte)
  deriving DecidableEq, Repr

/-- The first twenty bytes of a sequence, if it has them (42 R160, R172). -/
def frameOf (raw : List Byte) : Option Frame :=
  if h : 20 ≤ raw.length then some (Vector.mk (raw.take 20).toArray (by simp [h])) else none

/-- `decode_status`: length, then count, then checksum (42 R160). -/
def decodeStatus (raw : List Byte) : StatusResult :=
  match frameOf raw with
  | none => .shortFrame raw.length 20
  | some f =>
    if f[2] ≠ 16 then .unexpectedCount f[2] 16
    else if csum8 (frameBytes f 2 18) ≠ f[19] then .checksumMismatch f[19] (csum8 (frameBytes f 2 18))
    else .accepted f

/-- A sequence of operations, one per step, in order (00_scope R14). -/
def runOps : List Instr → State → Host.Outcome State Fault Refusal
  | [], s => .next s
  | i :: is, s =>
    match exec i s with
    | .next t => runOps is t
    | .fault r => .fault r
    | .refused r => .refused r

/-- How many steps of a sequence strobe `done` (10_state R34). -/
def doneSteps : List Instr → State → Nat
  | [], _ => 0
  | i :: is, s =>
    match exec i s with
    | .next t => (if t.out.done then 1 else 0) + doneSteps is t
    | .fault _ => 0
    | .refused _ => 0

/-- `k` steps of the whole machine. -/
def runSteps : Nat → State → Host.Outcome State Fault Refusal
  | 0, s => .next s
  | k + 1, s =>
    match step s with
    | .next t => runSteps k t
    | .fault r => .fault r
    | .refused r => .refused r

/-- The operations that drive the parser: those that must not be interleaved with a decode (42 R171). -/
def drivesParser : Instr → Bool
  | .fpStart | .fpByte _ | .fpEnd | .reset => true
  | .pwrOn | .pwrOff | .z2PwrTgl | .volUp | .volDn | .z2VolUp | .z2VolDn | .muteTgl | .z2MuteTgl
  | .toneDirectTgl | .statusReq | .selFm | .selTuner | .selTunerAm | .selCd | .selAux | .selPhono
  | .selDvd | .selTape | .z2SelFm | .z2SelTuner | .z2SelTunerAm | .z2SelCd | .z2SelAux | .z2SelPhono
  | .z2SelDvd | .z2SelTape | .cmdFrame _ _ | .nop | .csClr | .csAdd _ | .cmdEnc _ | .reserved7 => false

/-- The operations that drive the accumulator: those that must not be interleaved with a sum (40 R107). -/
def drivesAccumulator : Instr → Bool
  | .csClr | .csAdd _ | .reset => true
  | .pwrOn | .pwrOff | .z2PwrTgl | .volUp | .volDn | .z2VolUp | .z2VolDn | .muteTgl | .z2MuteTgl
  | .toneDirectTgl | .statusReq | .selFm | .selTuner | .selTunerAm | .selCd | .selAux | .selPhono
  | .selDvd | .selTape | .z2SelFm | .z2SelTuner | .z2SelTunerAm | .z2SelCd | .z2SelAux | .z2SelPhono
  | .z2SelDvd | .z2SelTape | .cmdFrame _ _ | .nop | .cmdEnc _ | .fpStart | .fpByte _ | .fpEnd
  | .reserved7 => false

/-- How a call of `decode_status(raw)` is issued to the block (42 R162). -/
def decodeOps (raw : List Byte) : List Instr := .fpStart :: (raw.map .fpByte ++ [.fpEnd])

/-- How the sum of bytes is issued to the accumulator (40 R107). -/
def sumOps (bytes : List Byte) : List Instr := .csClr :: bytes.map .csAdd

end Sys2Proof.Machine
end

