-- ==== Sys2Proof/Safety.lean ====
section
/-! DEFINITION. What a legal state is (10_state R40), which states the host cannot tell apart (10_state R36, R38; 93 U1, U2),
and when the host is ready to go on without stopping (10_state R39). -/

namespace Sys2Proof.Machine

/-- The nine facts of 10_state R40, in its order. -/
abbrev Block.legal (b : Block) : Prop :=
  (b.busy = true → b.cnt.toNat ≤ 19)
  ∧ (b.latValid = true → b.lat[2] = 16 ∧ csum8 (frameBytes b.lat 2 18) = b.lat[19])
  ∧ (b.res = 1 → b.latValid = true ∧ b.busy = false ∧ b.errActual = 0 ∧ b.errExpected = 0)
  ∧ (b.res = 0 → b.errActual = 0 ∧ b.errExpected = 0)
  ∧ (b.res = 3 → b.errExpected = 16 ∧ b.errActual ≠ 16 ∧ b.busy = false)
  ∧ (b.res = 4 → b.errActual ≠ b.errExpected ∧ b.busy = false)
  ∧ (b.res = 2 → b.errExpected = 20 ∧ b.errActual.toNat ≤ 19 ∧ b.busy = false)
  ∧ (b.busy = true → b.res = 0)
  ∧ (b.res ≠ 5 ∧ b.res ≠ 6 ∧ b.res ≠ 7)

/-- Two blocks that differ at most in bytes no result may depend on: those of `buf` that were not shifted in since the
last `FP_START`, those of `lat` while it is invalid, and `cnt` while idle (10_state R23, R38; 93 U1, U2). -/
abbrev Block.alike (a b : Block) : Prop :=
  a.acc = b.acc ∧ a.busy = b.busy ∧ a.res = b.res
  ∧ a.errActual = b.errActual ∧ a.errExpected = b.errExpected ∧ a.latValid = b.latValid
  ∧ (a.latValid = true → a.lat = b.lat)
  ∧ (a.busy = true → a.cnt = b.cnt ∧ ∀ i : Fin 20, 20 - a.cnt.toNat ≤ i.val → a.buf[i] = b.buf[i])

/-- Two states alike in the block and equal in everything else. -/
abbrev State.alike (s t : State) : Prop :=
  s.block.alike t.block ∧ s.out = t.out ∧ s.traceFitted = t.traceFitted ∧ s.port = t.port
  ∧ s.session = t.session ∧ s.link = t.link

/-- The remaining actions of an operation read a view only after a refresh has been accepted, and look at `res` only
after a decode has finished. `valid`: the latch is valid; `begun`: a decode has begun or finished since the last time `res`
was `NONE` while idle; `ended`: it has finished. -/
def actsReady : (valid begun ended : Bool) → List HostAct → Bool
  | _, _, _, [] => true
  | v, _, _, .issue .fpStart :: rest => actsReady v true false rest
  | v, b, e, .issue (.fpByte _) :: rest => b && actsReady v b e rest
  | v, b, _, .issue .fpEnd :: rest => b && actsReady v true true rest
  | _, _, _, .issue _ :: _ => false
  | v, b, e, .send _ :: rest => actsReady v b e rest
  | v, b, _, .read :: rest => b && actsReady v true true rest
  | _, b, e, .check :: rest => e && actsReady true b e rest
  | v, b, e, .give _ :: rest => v && actsReady v b e rest
  | v, b, e, .drivePower _ :: rest => v && actsReady v b e rest
  | v, b, e, .toggleUnless _ _ _ :: rest => v && actsReady v b e rest
  | v, b, e, .select _ _ :: rest => actsReady v b e rest

/-- The host can go on: nobody else drives the port (44 R220), and the operation in progress is one it may finish. -/
abbrev State.hostReady (s : State) : Prop :=
  s.port = []
  ∧ ∀ r : Running, s.session.running = some r →
      actsReady s.block.latValid (s.block.busy || s.block.res != 0)
        (!s.block.busy && s.block.res != 0) r.acts = true

end Sys2Proof.Machine
end

