-- ==== Sys2Proof/Certificates/Slice0/Obligations.lean ====
section
/-! DEFINITION. The statements for the provers, from the numbered rules of spec/. In each, `{ s with block := …, out := … }`
is the whole next state: every part of the machine that is not named there is unchanged. -/

open Sys2Proof Sys2Proof.Machine

/-! ### Reset -/

/-- 70 R290: the machine right after reset. What `buf` and `lat` hold is left open (log entry 6) and nothing is said of it. -/
def Obligations.ResetStateHoldsResetValues : Prop :=
  let b := State.reset.block
  b.acc = 0 ∧ b.cnt = 0 ∧ b.busy = false ∧ b.res = 0 ∧ b.errActual = 0 ∧ b.errExpected = 0 ∧ b.latValid = false
  ∧ State.reset.out.cmdValid = false ∧ State.reset.out.done = false ∧ State.reset.out.trace = none
  ∧ b.latched = none

/-- 10_state R38: `rst = 1`, whatever `op` and `din` are. `buf` and `lat` keep their bytes; no view reads them. -/
def Obligations.ResetOperationClearsAllButFrameBytes : Prop :=
  ∀ (s : State) (opDin : BitVec 11),
    let after : Block :=
      { s.block with
        acc := 0, cnt := 0, busy := false, res := 0, errActual := 0, errExpected := 0, latValid := false }
    decode (.rst opDin) = .ok .reset
    ∧ exec .reset s = .next { s with block := after, out := { cmdOut := none, done := false, trace := none } }
    ∧ after.latched = none

/-- 70 R291, R292: a second `RESET` changes nothing; one during a frame abandons it without error, result or strobe; one
after an accepted frame makes the latch unreadable. -/
def Obligations.ResetIsIdempotentAndAbandonsTheFrame : Prop :=
  ∀ s t : State, exec .reset s = .next t →
    exec .reset t = .next t
    ∧ t.block.busy = false ∧ t.block.res = 0 ∧ t.out.done = false ∧ t.out.cmdValid = false
    ∧ t.block.latched = none

/-! ### The checksum generator -/

/-- 40 R103: `NOP`, `op = 0`, any `din`. -/
def Obligations.NopKeepsEveryElement : Prop :=
  ∀ (s : State) (din : Byte),
    decode (.op (0#3 ++ din)) = .ok .nop
    ∧ exec .nop s = .next { s with out := { cmdOut := none, done := false, trace := none } }

/-- 40 R104: `CS_CLR`, `op = 1`, any `din`. -/
def Obligations.CsClrZeroesTheAccumulator : Prop :=
  ∀ (s : State) (din : Byte),
    decode (.op (1#3 ++ din)) = .ok .csClr
    ∧ exec .csClr s
      = .next { s with
          block := { s.block with acc := 0 }, out := { cmdOut := none, done := false, trace := none } }
    ∧ csum8 [] = 0

/-- 40 R105: `CS_ADD b`, `op = 2`; 8-bit unsigned addition, carry discarded. -/
def Obligations.CsAddAddsModulo256 : Prop :=
  ∀ (s : State) (b : Byte),
    decode (.op (2#3 ++ b)) = .ok (.csAdd b)
    ∧ exec (.csAdd b) s
      = .next { s with
          block := { s.block with acc := BitVec.ofNat 8 (s.block.acc.toNat + b.toNat) }
          out := { cmdOut := none, done := false, trace := none } }

/-- 40 R106: the reserved operation, `op = 7`, any `din`, is as `NOP`. -/
def Obligations.ReservedOperationActsAsNop : Prop :=
  ∀ (s : State) (din : Byte),
    decode (.op (7#3 ++ din)) = .ok .reserved7
    ∧ exec .reserved7 s = .next { s with out := { cmdOut := none, done := false, trace := none } }

/-- 40 R101: the seven laws of `csum8`. -/
def Obligations.ChecksumLaws : Prop :=
  (∀ a : Byte, csum8 [a] = a)
  ∧ (∀ s t : List Byte, csum8 (s ++ t) = BitVec.ofNat 8 ((csum8 s).toNat + (csum8 t).toNat))
  ∧ (∀ (s : List Byte) (b : Byte), csum8 (s ++ [b]) = BitVec.ofNat 8 ((csum8 s).toNat + b.toNat))
  ∧ (∀ s t : List Byte, s.Perm t → csum8 s = csum8 t)
  ∧ (∀ s t : List Byte, csum8 (s ++ 0 :: t) = csum8 (s ++ t))
  ∧ (∀ (s t : List Byte) (x y : Byte),
      csum8 (s ++ y :: t)
          = BitVec.ofNat 8 ((csum8 (s ++ x :: t)).toNat + y.toNat + 256 - x.toNat)
      ∧ (x ≠ y → csum8 (s ++ y :: t) ≠ csum8 (s ++ x :: t)))
  ∧ (∀ (s t u : List Byte) (x y d : Byte),
      csum8 (s ++ (x + d) :: (t ++ (y - d) :: u)) = csum8 (s ++ x :: (t ++ y :: u)))

/-- 40 R102: truncating at every addition or once at the end is the same; and how large the exact sums get. -/
def Obligations.LowByteLaw : Prop :=
  (∀ m n : Nat, low8 (m + n) = low8 ((low8 m).toNat + (low8 n).toNat))
  ∧ (∀ s : List Byte, s.foldl (· + ·) 0 = csum8 s)
  ∧ (∀ o : Byte, 0x81 + 0x73 + o.toNat ≤ 499)
  ∧ (∀ f : Frame, ((frameBytes f 2 18).map BitVec.toNat).sum ≤ 4335
      ∧ (f[2] = 16 → ((frameBytes f 2 18).map BitVec.toNat).sum ≤ 4096))

/-- 40 R107: a sum issued to the accumulator, with any other operations interleaved. -/
def Obligations.AccumulatorComputesTheChecksum : Prop :=
  ∀ (bytes : List Byte) (ops : List Instr) (s : State),
    ops.filter drivesAccumulator = .csClr :: bytes.map .csAdd →
    (∀ i ∈ ops, i.wellFormed = true) →
    ∃ t, runOps ops s = .next t ∧ t.block.acc = csum8 bytes

/-- 40 R110: re-deriving the checksum of the latched frame with the generator gives its checksum byte back. -/
def Obligations.RoundTripReproducesTheChecksum : Prop :=
  ∀ s : State, s.block.legal → s.block.latValid = true →
    csum8 (frameBytes s.block.lat 2 18) = s.block.lat[19]
    ∧ ∃ t, runOps (sumOps (frameBytes s.block.lat 2 18)) s = .next t
        ∧ t.block.acc = s.block.lat[19] ∧ t.block.lat = s.block.lat ∧ t.block.latValid = true

/-! ### The command encoder -/

/-- 41 R120: `CMD_ENC o`, `op = 3`: the four bytes, and no element changed. -/
def Obligations.CmdEncFramesEveryOpcode : Prop :=
  ∀ (s : State) (o : Byte),
    let c : Byte := 0xF4 + o
    decode (.op (3#3 ++ o)) = .ok (.cmdEnc o)
    ∧ exec (.cmdEnc o) s
      = .next { s with out := { cmdOut := some #v[0x81, 0x73, o, c], done := false, trace := none } }
    ∧ c = BitVec.ofNat 8 (0x81 + 0x73 + o.toNat) ∧ c = csum8 [0x81, 0x73, o]

/-- 41 R148: the six properties of `CMD_ENC`. -/
def Obligations.CommandEncodingProperties : Prop :=
  (∀ o : Byte, (commandFrame o).toList.length = 4
    ∧ (commandFrame o)[3] = BitVec.ofNat 8 (0x81 + 0x73 + o.toNat)
    ∧ (commandFrame o)[3] ≠ (commandFrame o)[2])
  ∧ (∀ o p : Byte, o ≠ p →
      (commandFrame o)[2] ≠ (commandFrame p)[2] ∧ (commandFrame o)[3] ≠ (commandFrame p)[3])
  ∧ (∀ (o : Byte) (s t s' t' : State), exec (.cmdEnc o) s = .next s' → exec (.cmdEnc o) t = .next t' →
      s'.out.cmdOut = some (commandFrame o) ∧ t'.out.cmdOut = some (commandFrame o))
  ∧ (∀ (o : Byte) (s : State), ∃ t,
      runOps [.csClr, .csAdd 0x81, .csAdd 0x73, .csAdd o] s = .next t
      ∧ t.block.acc = (commandFrame o)[3])

/-- 41 R121 to R131: each wire command emits its frame, is `CMD_ENC` of its opcode, and is written by its frame's word. -/
def Obligations.DeviceCommandsEmitTheirFrames : Prop :=
  ∀ (s : State), ∀ p ∈ ([(.pwrOn, 0x01, 0xF5), (.pwrOff, 0x02, 0xF6), (.z2PwrTgl, 0x3F, 0x33), (.volUp, 0x0F, 0x03),
      (.volDn, 0x10, 0x04), (.z2VolUp, 0x41, 0x35), (.z2VolDn, 0x42, 0x36), (.muteTgl, 0x11, 0x05),
      (.z2MuteTgl, 0x43, 0x37), (.toneDirectTgl, 0x15, 0x09), (.statusReq, 0x53, 0x47)]
        : List (Instr × Byte × Byte)),
    exec p.1 s
      = .next { s with
          out := { cmdOut := some #v[0x81, 0x73, p.2.1, p.2.2], done := false, trace := none } }
    ∧ exec p.1 s = exec (.cmdEnc p.2.1) s
    ∧ encode p.1 = .frame (0x8173#16 ++ p.2.1 ++ p.2.2)

/-- 41 R132 to R139: the primary input selections, opcode `src + 0x03`. -/
def Obligations.PrimarySelectionsEmitTheirFrames : Prop :=
  ∀ (s : State), ∀ p ∈ ([(.selFm, .fm, 0x03, 0xF7), (.selTuner, .tuner, 0x05, 0xF9), (.selTunerAm, .tunerAm, 0x06, 0xFA),
      (.selCd, .cd, 0x07, 0xFB), (.selAux, .aux, 0x08, 0xFC), (.selPhono, .phono, 0x09, 0xFD),
      (.selDvd, .dvd, 0x0A, 0xFE), (.selTape, .tape, 0x0B, 0xFF)]
        : List (Instr × InputSource × Byte × Byte)),
    exec p.1 s
      = .next { s with
          out := { cmdOut := some #v[0x81, 0x73, p.2.2.1, p.2.2.2], done := false, trace := none } }
    ∧ exec p.1 s = exec (.cmdEnc (sourceByte p.2.1 + 0x03)) s
    ∧ encode p.1 = .frame (0x8173#16 ++ p.2.2.1 ++ p.2.2.2)

/-- 41 R140 to R147: the zone2 input selections, opcode `src + 0x41`; two of the frames are those of other commands. -/
def Obligations.Zone2SelectionsEmitTheirFrames : Prop :=
  (∀ (s : State), ∀ p ∈ ([(.z2SelFm, .fm, 0x41, 0x35), (.z2SelTuner, .tuner, 0x43, 0x37),
      (.z2SelTunerAm, .tunerAm, 0x44, 0x38), (.z2SelCd, .cd, 0x45, 0x39), (.z2SelAux, .aux, 0x46, 0x3A),
      (.z2SelPhono, .phono, 0x47, 0x3B), (.z2SelDvd, .dvd, 0x48, 0x3C), (.z2SelTape, .tape, 0x49, 0x3D)]
        : List (Instr × InputSource × Byte × Byte)),
    exec p.1 s
      = .next { s with
          out := { cmdOut := some #v[0x81, 0x73, p.2.2.1, p.2.2.2], done := false, trace := none } }
    ∧ exec p.1 s = exec (.cmdEnc (sourceByte p.2.1 + 0x41)) s
    ∧ encode p.1 = .frame (0x8173#16 ++ p.2.2.1 ++ p.2.2.2))
  ∧ encode .z2SelFm = encode .z2VolUp ∧ encode .z2SelTuner = encode .z2MuteTgl

/-- 30 R88, R85 item 9: the general command frame is emitted when its last byte is the checksum of its opcode, and is
refused by name when it is not (the model's refusal, log entry 2). -/
def Obligations.GeneralFrameIsEmittedIffWellFormed : Prop :=
  ∀ (s : State) (o c : Byte),
    (c = 0xF4 + o →
      exec (.cmdFrame o c) s
        = .next { s with out := { cmdOut := some #v[0x81, 0x73, o, c], done := false, trace := none } })
    ∧ (c ≠ 0xF4 + o → exec (.cmdFrame o c) s = .refused .badCommandChecksum)

/-! ### The frame parser -/

/-- 42 R163: `FP_START`, `op = 4`, in both phases. -/
def Obligations.FpStartBeginsAFrame : Prop :=
  ∀ (s : State) (din : Byte),
    decode (.op (4#3 ++ din)) = .ok .fpStart
    ∧ exec .fpStart s
      = .next { s with
          block := { s.block with busy := true, cnt := 0, res := 0, errActual := 0, errExpected := 0 }
          out := { cmdOut := none, done := false, trace := none } }

/-- 42 R164: `FP_BYTE` while idle is dropped. -/
def Obligations.FpByteWhileIdleIsDropped : Prop :=
  ∀ (s : State) (b : Byte), s.block.busy = false →
    decode (.op (5#3 ++ b)) = .ok (.fpByte b)
    ∧ exec (.fpByte b) s = .next { s with out := { cmdOut := none, done := false, trace := none } }

/-- 42 R165: the shift of an accepted byte, whatever the count; below 19 the count alone follows; at 19 the frame completes;
and where the bytes since `FP_START` stand. -/
def Obligations.FpByteShiftsTheFrame : Prop :=
  (∀ (s : State) (b : Byte), s.block.busy = true →
    decode (.op (5#3 ++ b)) = .ok (.fpByte b)
    ∧ ∃ t, exec (.fpByte b) s = .next t
      ∧ t.block.buf.toList = s.block.buf.toList.tail ++ [b]
      ∧ (s.block.cnt.toNat ≤ 18 →
          t = { s with
                block := { s.block with buf := t.block.buf, cnt := s.block.cnt + 1 }
                out := { cmdOut := none, done := false, trace := if s.traceFitted then some b else none } })
      ∧ (s.block.cnt = 19 →
          t.block.busy = false ∧ t.block.cnt = 0 ∧ t.out.done = true
          ∧ (t.block.res = 3 ∨ t.block.res = 4 ∨ t.block.res = 1)))
  ∧ (∀ (bytes : List Byte) (s : State), bytes.length ≤ 20 →
    ∃ t, runOps (.fpStart :: bytes.map .fpByte) s = .next t
      ∧ ∀ j, j < bytes.length → t.block.buf.toList[20 - bytes.length + j]? = bytes[j]?)

/-- 42 R166: the 20th byte, count wrong. `F` is the buffer after the shift. -/
def Obligations.TwentiethByteCountWrong : Prop :=
  ∀ (s : State) (b : Byte),
    let F := shiftFrame s.block.buf b
    s.block.busy = true → s.block.cnt = 19 → F[2] ≠ 16 →
    exec (.fpByte b) s
      = .next { s with
          block :=
            { s.block with
              buf := F, res := 3, errActual := F[2], errExpected := 16, busy := false, cnt := 0 }
          out := { cmdOut := none, done := true, trace := if s.traceFitted then some b else none } }

/-- 42 R167: the 20th byte, checksum wrong. -/
def Obligations.TwentiethByteChecksumWrong : Prop :=
  ∀ (s : State) (b : Byte),
    let F := shiftFrame s.block.buf b
    s.block.busy = true → s.block.cnt = 19 → F[2] = 16 → csum8 (frameBytes F 2 18) ≠ F[19] →
    exec (.fpByte b) s
      = .next { s with
          block :=
            { s.block with
              buf := F, res := 4, errActual := F[19], errExpected := csum8 (frameBytes F 2 18)
              busy := false, cnt := 0 }
          out := { cmdOut := none, done := true, trace := if s.traceFitted then some b else none } }

/-- 42 R168: the 20th byte, frame accepted. The error values are not written, and are 0 in every legal state. -/
def Obligations.TwentiethByteLatchesTheFrame : Prop :=
  ∀ (s : State) (b : Byte),
    let F := shiftFrame s.block.buf b
    s.block.busy = true → s.block.cnt = 19 → F[2] = 16 → csum8 (frameBytes F 2 18) = F[19] →
    exec (.fpByte b) s
      = .next { s with
          block := { s.block with buf := F, lat := F, latValid := true, res := 1, busy := false, cnt := 0 }
          out := { cmdOut := none, done := true, trace := if s.traceFitted then some b else none } }
    ∧ (s.block.legal → s.block.errActual = 0 ∧ s.block.errExpected = 0)

/-- 42 R169: `FP_END` while receiving. -/
def Obligations.FpEndWhileReceivingIsAShortFrame : Prop :=
  ∀ (s : State) (din : Byte), s.block.busy = true →
    decode (.op (6#3 ++ din)) = .ok .fpEnd
    ∧ exec .fpEnd s
      = .next { s with
          block :=
            { s.block with
              res := 2, errActual := s.block.cnt.zeroExtend 8, errExpected := 20, busy := false }
          out := { cmdOut := none, done := true, trace := none } }

/-- 42 R170: `FP_END` while idle. -/
def Obligations.FpEndWhileIdleDoesNothing : Prop :=
  ∀ s : State, s.block.busy = false →
    exec .fpEnd s = .next { s with out := { cmdOut := none, done := false, trace := none } }

/-- 42 R171: the operations, with any others interleaved, are the source's `decode_status`. -/
def Obligations.ParserRefinesDecodeStatus : Prop :=
  ∀ (raw : List Byte) (ops : List Instr) (s : State),
    ops.filter drivesParser = .fpStart :: (raw.map .fpByte ++ [.fpEnd]) →
    (∀ i ∈ ops, i.wellFormed = true) →
    ∃ t, runOps ops s = .next t ∧ t.block.busy = false ∧ doneSteps ops s = 1
      ∧ match decodeStatus raw with
        | .accepted f =>
          t.block.res = 1 ∧ t.block.errActual = 0 ∧ t.block.errExpected = 0
          ∧ t.block.lat = f ∧ t.block.latValid = true
        | .shortFrame a e =>
          t.block.res = 2 ∧ t.block.errActual.toNat = a ∧ t.block.errExpected.toNat = e
          ∧ t.block.lat = s.block.lat ∧ t.block.latValid = s.block.latValid
        | .unexpectedCount a e =>
          t.block.res = 3 ∧ t.block.errActual = a ∧ t.block.errExpected = e
          ∧ t.block.lat = s.block.lat ∧ t.block.latValid = s.block.latValid
        | .checksumMismatch a e =>
          t.block.res = 4 ∧ t.block.errActual = a ∧ t.block.errExpected = e
          ∧ t.block.lat = s.block.lat ∧ t.block.latValid = s.block.latValid

/-- 42 R172: bytes after the 20th are dropped. -/
def Obligations.OverlongInputIsCutAtTwentyBytes : Prop :=
  ∀ (raw : List Byte) (s : State), 20 ≤ raw.length →
    decodeStatus raw = decodeStatus (raw.take 20)
    ∧ runOps (decodeOps raw) s = runOps (decodeOps (raw.take 20)) s

/-- 42 R173 items 1, 2, 3, 5; 60 R266: which result each kind of input ends with, read off the block itself. -/
def Obligations.FirstFailingTestDecidesTheResult : Prop :=
  ∀ (raw : List Byte) (s : State), ∃ t, runOps (decodeOps raw) s = .next t
    ∧ (raw.length < 20 → t.block.res = 2)
    ∧ ∀ f : Frame, raw = f.toList →
        (f[2] ≠ 16 → t.block.res = 3 ∧ t.block.errActual = f[2] ∧ t.block.errExpected = 16)
        ∧ (f[2] = 16 → csum8 (frameBytes f 2 18) ≠ f[19] → t.block.res = 4)
        ∧ (f[2] = 16 → csum8 (frameBytes f 2 18) = f[19] → t.block.res = 1 ∧ t.block.lat = f)

/-- 42 R174: an error never touches the latch; a change of the latch is the whole accepted frame, with `OK`. -/
def Obligations.NoPartialUpdateOfTheLatch : Prop :=
  ∀ (i : Instr) (s t : State), exec i s = .next t →
    (t.block.res = 2 ∨ t.block.res = 3 ∨ t.block.res = 4 →
      t.block.lat = s.block.lat ∧ t.block.latValid = s.block.latValid)
    ∧ (t.block.lat ≠ s.block.lat →
      t.block.res = 1 ∧ t.block.latValid = true
      ∧ ∃ b, i = .fpByte b ∧ t.block.lat.toList = s.block.buf.toList.tail ++ [b])

/-- 40 R109: in an accepted frame, any change of one byte of offsets 2 to 19 is detected. -/
def Obligations.EverySingleByteErrorIsDetected : Prop :=
  ∀ (f : Frame) (i : Fin 20) (y : Byte),
    decodeStatus f.toList = .accepted f → 2 ≤ i.val → y ≠ f[i] →
    decodeStatus (f.set i y).toList
      = if i.val = 2 then .unexpectedCount y 16
        else .checksumMismatch (f.set i y)[19] (csum8 (frameBytes (f.set i y) 2 18))

/-- 20 R66: a change of the system id leaves the verdict, and a swap of two summed bytes after the count byte is accepted.
That each summed byte is covered is `EverySingleByteErrorIsDetected`. -/
def Obligations.SystemIdChangesAndSwapsAreAccepted : Prop :=
  (∀ (f g : Frame), (∀ i : Fin 20, 2 ≤ i.val → g[i] = f[i]) → decodeStatus f.toList = .accepted f →
    decodeStatus g.toList = .accepted g)
  ∧ (∀ (f : Frame) (i j : Fin 20), decodeStatus f.toList = .accepted f →
    3 ≤ i.val → i.val ≤ 18 → 3 ≤ j.val → j.val ≤ 18 →
    decodeStatus ((f.set i f[j]).set j f[i]).toList = .accepted ((f.set i f[j]).set j f[i]))

/-! ### Errors and outputs -/

/-- 60 R265, R260: what a step that records an error has done, and that only two operations can. -/
def Obligations.ErrorEntryRecordsAndIdles : Prop :=
  ∀ (i : Instr) (s t : State), exec i s = .next t → t.out.done = true → t.block.res ≠ 1 →
    s.block.busy = true ∧ t.block.busy = false
    ∧ t.block.acc = s.block.acc ∧ t.block.lat = s.block.lat ∧ t.block.latValid = s.block.latValid
    ∧ ((i = .fpEnd ∧ t.block.res = 2 ∧ t.block.errActual = s.block.cnt.zeroExtend 8 ∧ t.block.errExpected = 20
          ∧ t.block.buf = s.block.buf ∧ t.block.cnt = s.block.cnt)
      ∨ (∃ b, i = .fpByte b ∧ s.block.cnt = 19 ∧ t.block.cnt = 0
          ∧ t.block.buf.toList = s.block.buf.toList.tail ++ [b]
          ∧ ((t.block.res = 3 ∧ t.block.errActual = t.block.buf[2] ∧ t.block.errExpected = 16
                ∧ t.block.errActual ≠ 16)
            ∨ (t.block.res = 4 ∧ t.block.buf[2] = 16 ∧ t.block.errActual = t.block.buf[19]
                ∧ t.block.errExpected = csum8 (frameBytes t.block.buf 2 18)
                ∧ t.block.errActual ≠ t.block.errExpected))))

/-- 60 R268: in a legal state an error and its two values stay until `FP_START` or `RESET`. -/
def Obligations.ErrorRecordIsHeld : Prop :=
  ∀ (i : Instr) (s t : State), s.block.legal →
    s.block.res = 2 ∨ s.block.res = 3 ∨ s.block.res = 4 →
    i ≠ .fpStart → i ≠ .reset → exec i s = .next t →
    t.block.res = s.block.res ∧ t.block.errActual = s.block.errActual
    ∧ t.block.errExpected = s.block.errExpected ∧ t.out.done = false

/-- 10_state R34: the steps in which a decode finishes, and no others, strobe `done`. -/
def Obligations.DoneStrobesExactlyWhenADecodeFinishes : Prop :=
  ∀ (i : Instr) (s t : State), exec i s = .next t →
    (t.out.done = true ↔
      s.block.busy = true ∧ ((∃ b, i = .fpByte b ∧ s.block.cnt = 19) ∨ i = .fpEnd))

/-- 10_state R33: which steps present a command frame, and that the frame depends on the request alone. -/
def Obligations.CommandOutputDependsOnTheRequestAlone : Prop :=
  ∀ (i : Instr) (s s' t t' : State), exec i s = .next t → exec i s' = .next t' →
    t.out.cmdOut = t'.out.cmdOut
    ∧ (t.out.cmdValid = true ↔
        (wireOpcode i).isSome = true ∨ (∃ o, i = .cmdEnc o) ∨ (∃ o c, i = .cmdFrame o c))

/-- 60 R280: the trace, where it is fitted, shows exactly the accepted bytes (log entry 9). -/
def Obligations.TraceShowsAcceptedBytes : Prop :=
  ∀ (i : Instr) (s t : State), exec i s = .next t →
    ∀ b, t.out.trace = some b ↔ s.traceFitted = true ∧ s.block.busy = true ∧ i = .fpByte b

/-! ### Views -/

/-- 10_state R39, 43 R190: no view of an invalid latch; a host action that would read one stops (log entry 8). -/
def Obligations.InvalidLatchHasNoViews : Prop :=
  ∀ s : State,
    (s.block.latValid = true → s.block.latched = some s.block.lat)
    ∧ (s.block.latValid = false →
        s.block.latched = none ∧ s.block.readable.latched = none
        ∧ ∀ act : Frame → State, viewStep s act = .fault .readInvalidLatch)

/-- 43 R191 to R194, R196, R201, R202, R204, R205: each view reads its own offset. -/
def Obligations.ViewsReadTheirOffsets : Prop :=
  ∀ f : Frame,
    memRead f 0 2 = some (viewSystemId f).toNat ∧ (viewSystemId f).toNat = f[0].toNat + 256 * f[1].toNat
    ∧ viewCount f = f[2] ∧ viewText f = [f[3], f[4], f[5], f[6], f[7], f[8], f[9], f[10], f[11], f[12]]
    ∧ viewFlags f = f[13] ∧ viewInputRaw f = f[14] ∧ viewZone2InputRaw f = f[15]
    ∧ viewVolume f = f[16] ∧ viewZone2Volume f = f[17] ∧ viewRsvd18 f = f[18] ∧ viewChecksum f = f[19]

/-- 43 R195: the eight flags are the bits of offset 13. -/
def Obligations.FlagViewsAreTheBitsOfOffset13 : Prop :=
  ∀ f : Frame, ∀ p ∈ ([(.power, 0x01), (.commandRequest, 0x02), (.zone2Power, 0x04), (.mute, 0x08),
      (.zone2Mute, 0x10), (.sleepMode, 0x20), (.cinemaEq, 0x40), (.toneDirect, 0x80)]
        : List (FlagName × Byte)),
    (viewFlag p.1 f = true ↔ f[13] &&& p.2 ≠ 0)

/-- 43 R197: membership of a selector byte. -/
def Obligations.SelectorMembership : Prop :=
  (∀ v : Byte, (isSource v = true ↔ v ∈ ([0, 2, 3, 4, 5, 6, 7, 8] : List Byte))
    ∧ (isSource v = true ↔ v.toNat ≤ 8 ∧ v ≠ 1))
  ∧ ∀ f : Frame, viewInputValid f = isSource f[14] ∧ viewZone2InputValid f = isSource f[15]

/-- 43 R198, R199: the decoded selectors. -/
def Obligations.InputViewsDecodeTheSelector : Prop :=
  ∀ f : Frame, ∀ p ∈ ([(f[14], viewInput f), (f[15], viewZone2Input f)] : List (Byte × Selected)),
    (∀ src : InputSource, p.2 = .member src ↔ p.1 = sourceByte src)
    ∧ (isSource p.1 = false → p.2 = .notAMember p.1)

/-- 43 R203: decibels, for levels 0 to 90 only. -/
def Obligations.DecibelViewsEndAtNinety : Prop :=
  ∀ f : Frame, ∀ p ∈ ([(f[16], viewVolumeDb f), (f[17], viewZone2VolumeDb f)] : List (Byte × Option Int)),
    (p.1.toNat ≤ 90 → p.2 = some ((p.1.toNat : Int) - 76))
    ∧ (90 < p.1.toNat → p.2 = none)

/-- 43 R206: the twenty bytes are recovered from the views. -/
def Obligations.ViewsLoseNothing : Prop :=
  ∀ f : Frame,
    f.toList
      = [BitVec.ofNat 8 ((viewSystemId f).toNat % 256), BitVec.ofNat 8 ((viewSystemId f).toNat / 256), viewCount f]
        ++ viewText f
        ++ [viewFlags f, viewInputRaw f, viewZone2InputRaw f, viewVolume f, viewZone2Volume f, viewRsvd18 f,
            viewChecksum f]

/-! ### Encoding and the step -/

/-- 30 R73, R83, R84, R89: decoding the encoding of a well-formed instruction gives it back, but for the names the spec gives
twice to one frame; whatever name is given, the effect is the same (log entry 3). -/
def Obligations.DecodeAndEncodeAgree : Prop :=
  ∀ i : Instr, i.wellFormed = true →
    i ∈ decodeAll (encode i)
    ∧ (i.firstOfItsWord = true → decode (encode i) = .ok i)
    ∧ ∀ j, decode (encode i) = .ok j → ∀ s, exec j s = exec i s

/-- 10_state R42: what is sampled at the port is dispatched on `rst` and `op`: the first clause. The two clauses on 32-bit
words are the model's choice (log entry 2), in the terms of 30 R88, which only recognises a frame: a word that begins `81 73` is
a request for `CMD_ENC` of its opcode, refused by name when its checksum is wrong; any other word decodes to nothing. -/
def Obligations.PortSamplesAreDispatched : Prop :=
  (∀ w : BitVec 11, decode (.op w) = .ok (sampledOperation (false, w.extractLsb' 8 3, w.extractLsb' 0 8))
    ∧ decode (.rst w) = .ok (sampledOperation (true, w.extractLsb' 8 3, w.extractLsb' 0 8)))
  ∧ (∀ w : BitVec 32, w.extractLsb' 16 16 ≠ 0x8173#16 → decode (.frame w) = .error .notACommandFrame)
  ∧ (∀ w : BitVec 32, w.extractLsb' 16 16 = 0x8173#16 →
      ∃ i, decode (.frame w) = .ok i
        ∧ (frameWellFormed w = true → ∀ s, exec i s = exec (sampledOperation (false, 3, w.extractLsb' 8 8)) s)
        ∧ (frameWellFormed w = false → ∀ s, exec i s = .refused .badCommandChecksum))

/-- Words written out from 30 R73, R83, R84 stand for their instructions. -/
def Obligations.WordsDecodeAsTheTableSays : Prop :=
  decode (.frame 0x81735347) = .ok .statusReq ∧ decode (.frame 0x817301F5) = .ok .pwrOn
  ∧ decode (.frame 0x817307FB) = .ok .selCd ∧ decode (.frame 0x8173493D) = .ok .z2SelTape
  ∧ decode (.frame 0x817300F4) = .ok (.cmdFrame 0x00 0xF4)
  ∧ decode (.op 0x253) = .ok (.csAdd 0x53) ∧ decode (.op 0x353) = .ok (.cmdEnc 0x53)
  ∧ decode (.op 0x4FF) = .ok .fpStart ∧ decode (.op 0x5E7) = .ok (.fpByte 0xE7)
  ∧ decode (.op 0x7AB) = .ok .reserved7 ∧ decode (.rst 0x5E7) = .ok .reset

/-- 10_state R42, 20 R63: a step performs the operation its first waiting request decodes to, which is then gone (that requests
wait is the model's choice, log entry 1). The other two clauses are the model's choices: a request that decodes to nothing is
refused by name (log entry 2; 30 R85 item 9 gives the block no behaviour for a malformed frame), and with nothing waiting and
an idle host the step is a `NOP` (log entry 12). -/
def Obligations.StepRunsTheDecodedOperation : Prop :=
  (∀ (s : State) (r : Request) (rest : List Request) (i : Instr),
    s.port = r :: rest → decode r = .ok i → step s = exec i { s with port := rest })
  ∧ (∀ (s : State) (r : Request) (rest : List Request) (e : DecodeError),
    s.port = r :: rest → decode r = .error e → step s = .refused .notACommandFrame)
  ∧ (∀ s : State, s.port = [] → s.session.running = none → s.session.calls = [] → step s = exec .nop s)

/-- 10_state R41: the write sets. -/
def Obligations.EachOperationWritesOnlyItsSet : Prop :=
  ∀ (i : Instr) (s t : State), exec i s = .next t →
    t.traceFitted = s.traceFitted ∧ t.port = s.port ∧ t.session = s.session ∧ t.link = s.link
    ∧ match i with
      | .reset => t.block.buf = s.block.buf ∧ t.block.lat = s.block.lat
      | .csClr | .csAdd _ => t.block = { s.block with acc := t.block.acc }
      | .fpStart =>
        t.block =
          { s.block with
            cnt := t.block.cnt, busy := t.block.busy, res := t.block.res
            errActual := t.block.errActual, errExpected := t.block.errExpected }
      | .fpByte _ => t.block.acc = s.block.acc ∧ (s.block.busy = false → t.block = s.block)
      | .fpEnd =>
        t.block =
          { s.block with
            busy := t.block.busy, res := t.block.res
            errActual := t.block.errActual, errExpected := t.block.errExpected }
        ∧ (s.block.busy = false → t.block = s.block)
      | .pwrOn | .pwrOff | .z2PwrTgl | .volUp | .volDn | .z2VolUp | .z2VolDn | .muteTgl | .z2MuteTgl
      | .toneDirectTgl | .statusReq | .selFm | .selTuner | .selTunerAm | .selCd | .selAux | .selPhono
      | .selDvd | .selTape | .z2SelFm | .z2SelTuner | .z2SelTunerAm | .z2SelCd | .z2SelAux | .z2SelPhono
      | .z2SelDvd | .z2SelTape | .cmdFrame _ _ | .nop | .cmdEnc _ | .reserved7 => t.block = s.block

/-- 70 R311: a `NOP` step before an operation changes nothing of what it does. -/
def Obligations.NopStepsMayBeInserted : Prop :=
  (∀ (i : Instr) (s u : State), exec .nop s = .next u → u = { s with out := u.out } ∧ exec i u = exec i s)
  ∧ ∀ (before after : List Instr) (s : State), after ≠ [] →
      runOps (before ++ .nop :: after) s = runOps (before ++ after) s

/-- 20 R60, 44 R220: whatever the host does in a step, the block performs exactly one operation in it. -/
def Obligations.EachStepPerformsOneOperation : Prop :=
  ∀ s t : State, step s = .next t →
    ∃ (i : Instr) (v : State), exec i s = .next v ∧ t.block = v.block ∧ t.out = v.out

/-! ### Invariants -/

/-- 10_state R40 holds at reset, and the host is ready there whatever it is asked and whatever will arrive. -/
def Obligations.ResetStateIsLegalAndReady : Prop :=
  State.reset.block.legal
  ∧ ∀ (calls : List Call) (arrivals : List (List Byte)),
      let s : State :=
        { State.reset with
          session := { State.reset.session with calls := calls }
          link := { State.reset.link with arrivals := arrivals } }
      s.hostReady

/-- 10_state R40: every step, whatever is sampled and whatever the host does, keeps the nine facts; and they hold after a
`RESET` of any state, and from there on. -/
def Obligations.EveryStepKeepsTheBlockLegal : Prop :=
  (∀ s t : State, s.block.legal → step s = .next t → t.block.legal)
  ∧ ∀ (k : Nat) (s u t : State), exec .reset s = .next u → runSteps k u = .next t → t.block.legal

/-- 10_state R38, R36, 93 U1, U2: bytes of `buf` left over from before `FP_START`, the bytes of an invalid latch and an idle
`cnt` reach no result: two states that differ only there step alike, and show the host the same. -/
def Obligations.StaleBytesReachNoResult : Prop :=
  ∀ s t : State, s.alike t →
    s.block.readable = t.block.readable
    ∧ (∀ s', step s = .next s' → ∃ t', step t = .next t' ∧ s'.alike t')
    ∧ (∀ r, step s = .fault r → step t = .fault r)
    ∧ (∀ r, step s = .refused r → step t = .refused r)

/-- 10_state R39, 60 R269, R282: from a legal state, a host that alone drives the port never stops, whatever it is asked and
whatever arrives; in particular it never reads an invalid latch. -/
def Obligations.HostNeverStops : Prop :=
  ∀ s : State, s.block.legal → s.hostReady →
    ∃ t, step s = .next t ∧ t.block.legal ∧ t.hostReady

/-! ### The host. That the host acts in steps of its own, in which the block does a NOP, is the model's (log entry 11). -/

/-- 44 R225, R226: an operation that begins with a refresh sends the status request, decodes what arrives, and goes on with
its other actions only if the frame is accepted; else it ends with the error and sends nothing more. A refresh inside an
operation (the second one of `set_tone_direct`, 44 R247) and a retried one (44 R251) are not in this statement. -/
def Obligations.RefreshDecodesTheReply : Prop :=
  ∀ (s : State) (c : Call) (rest : List HostAct) (cs : List Call),
    s.port = [] → s.session.running = none → s.session.calls = c :: cs → s.session.retryOn = [] →
    expandCall s.session.doubleRefresh c = refreshActs ++ rest →
    let raw := s.link.available.take 20
    ∃ t, runSteps (raw.length + 6) s = .next t
      ∧ t.link.tx = s.link.tx ++ [0x81, 0x73, 0x53, 0x47] ∧ t.link.rx = s.link.available.drop 20
      ∧ t.port = [] ∧ t.session.calls = cs ∧ t.block.acc = s.block.acc
      ∧ match decodeStatus raw with
        | .accepted f =>
          t.block.res = 1 ∧ t.block.lat = f ∧ t.block.latValid = true
          ∧ t.session.running = some { call := c, acts := rest } ∧ t.session.results = s.session.results
        | .shortFrame _ _ =>
          t.block.lat = s.block.lat ∧ t.block.latValid = s.block.latValid ∧ t.session.running = none
          ∧ t.session.results = s.session.results ++ [.raised .shortFrame]
        | .unexpectedCount a e =>
          t.block.lat = s.block.lat ∧ t.block.latValid = s.block.latValid ∧ t.session.running = none
          ∧ t.session.results = s.session.results ++ [.raised (.unexpectedCount a e)]
        | .checksumMismatch a e =>
          t.block.lat = s.block.lat ∧ t.block.latValid = s.block.latValid ∧ t.session.running = none
          ∧ t.session.results = s.session.results ++ [.raised (.checksumMismatch a e)]

/-- 44 R228: after its refresh, `set_power` sends `0x01`, `0x02` or nothing, and ends. -/
def Obligations.SetPowerSendsTheDirection : Prop :=
  ∀ (s : State) (on dr : Bool),
    expandCall dr (.setPower on) = refreshActs ++ [.drivePower on]
    ∧ (s.port = [] → s.block.latValid = true →
      s.session.running = some { call := .setPower on, acts := [.drivePower on] } →
      let power := s.block.lat[13].getLsbD 0
      let sent : List Byte :=
        if on = true ∧ power = false then [0x81, 0x73, 0x01, 0xF5]
        else if on = false ∧ power = true then [0x81, 0x73, 0x02, 0xF6]
        else []
      ∃ t, runSteps (if on = power then 2 else 3) s = .next t ∧ t.block = s.block
        ∧ t.link = { s.link with tx := s.link.tx ++ sent }
        ∧ t.session = { s.session with running := none, results := s.session.results ++ [.returned .nothing] })

/-- 44 R229, R237, R239, R247, R230: after its refresh, each toggle setter sends its opcode only if the flag differs. -/
def Obligations.ToggleSettersSendOnlyOnDifference : Prop :=
  ∀ (s : State) (d dr : Bool),
    ∀ p ∈ ([(.setZone2Power d, .zone2Power, 2, 0x3F, 0x33), (.setMuted d, .mute, 3, 0x11, 0x05),
        (.setZone2Muted d, .zone2Mute, 4, 0x43, 0x37), (.setToneDirect d, .toneDirect, 7, 0x15, 0x09)]
          : List (Call × FlagName × Nat × Byte × Byte)),
      expandCall dr p.1
          = refreshActs ++ (if dr = true ∧ p.1 = .setToneDirect d then refreshActs else [])
            ++ [.toggleUnless d p.2.1 p.2.2.2.1]
      ∧ (s.port = [] → s.block.latValid = true →
        s.session.running = some { call := p.1, acts := [.toggleUnless d p.2.1 p.2.2.2.1] } →
        let current := s.block.lat[13].getLsbD p.2.2.1
        ∃ t, runSteps (if d = current then 2 else 3) s = .next t ∧ t.block = s.block
          ∧ t.link = { s.link with
              tx := s.link.tx ++ (if d = current then [] else [0x81, 0x73, p.2.2.2.1, p.2.2.2.2]) }
          ∧ t.session
            = { s.session with running := none, results := s.session.results ++ [.returned .nothing] })

/-- 44 R225, R227, R236, R238, R240 to R243, R246: what each getter returns or raises on the refreshed frame `f`. -/
def Obligations.GettersReturnTheirView : Prop :=
  ∀ (s : State) (f : Frame) (dr : Bool),
    let source : Byte → HostResult := fun v =>
      if v = 0 then .returned (.source .fm) else if v = 2 then .returned (.source .tuner)
      else if v = 3 then .returned (.source .tunerAm) else if v = 4 then .returned (.source .cd)
      else if v = 5 then .returned (.source .aux) else if v = 6 then .returned (.source .phono)
      else if v = 7 then .returned (.source .dvd) else if v = 8 then .returned (.source .tape)
      else .raised (.invalidEnumValue v)
    ∀ p ∈ ([(.getPower, .flag .power, .returned (.flag (f[13].getLsbD 0))),
        (.getZone2Power, .flag .zone2Power, .returned (.flag (f[13].getLsbD 2))),
        (.getMuted, .flag .mute, .returned (.flag (f[13].getLsbD 3))),
        (.getZone2Muted, .flag .zone2Mute, .returned (.flag (f[13].getLsbD 4))),
        (.getToneDirect, .flag .toneDirect, .returned (.flag (f[13].getLsbD 7))),
        (.getVolume, .volume, .returned (.level f[16])),
        (.getZone2Volume, .zone2Volume, .returned (.level f[17])),
        (.getText, .text,
          .returned (.text [f[3], f[4], f[5], f[6], f[7], f[8], f[9], f[10], f[11], f[12]])),
        (.getInput, .input, source f[14]), (.getZone2Input, .zone2Input, source f[15])]
          : List (Call × Query × HostResult)),
      expandCall dr p.1 = refreshActs ++ [.give p.2.1]
      ∧ (s.port = [] → s.block.latValid = true → s.block.lat = f → s.session.retryOn = [] →
        s.session.running = some { call := p.1, acts := [.give p.2.1] } →
        step s = .next { s with
          out := { cmdOut := none, done := false, trace := none }
          session := { s.session with running := none, results := s.session.results ++ [p.2.2] } })

/-- 44 R244, R245: a selection sends `src + base` with no refresh, or ends in `InvalidArgument` and sends nothing. -/
def Obligations.SelectionsValidateThenSend : Prop :=
  ∀ (s : State) (src : Byte) (cs : List Call),
    ∀ p ∈ ([(.setInput src, 0x03), (.setZone2Input src, 0x41)] : List (Call × Byte)),
      s.port = [] → s.session.running = none → s.session.calls = p.1 :: cs →
      (src ∈ ([0, 2, 3, 4, 5, 6, 7, 8] : List Byte) →
        ∃ t, runSteps 4 s = .next t ∧ t.block = s.block
          ∧ t.link = { s.link with tx := s.link.tx ++ [0x81, 0x73, src + p.2, 0xF4 + (src + p.2)] }
          ∧ t.session =
            { s.session with calls := cs, running := none, results := s.session.results ++ [.returned .nothing] })
      ∧ (src ∉ ([0, 2, 3, 4, 5, 6, 7, 8] : List Byte) → s.session.retryOn = [] →
        ∃ t, runSteps 2 s = .next t ∧ t.block = s.block ∧ t.link = s.link
          ∧ t.session =
            { s.session with
              calls := cs, running := none
              results := s.session.results ++ [.raised (.invalidArgument src)] })

/-- 44 R232 to R235: the volume operations send their pulse exactly `n` times, with no refresh. -/
def Obligations.VolumeOperationsSendTheirPulses : Prop :=
  ∀ (s : State) (n : Nat) (cs : List Call),
    ∀ p ∈ ([(.volumeUp n, n, 0x0F, 0x03), (.volumeDown n, n, 0x10, 0x04), (.zone2VolumeUp, 1, 0x41, 0x35),
        (.zone2VolumeDown, 1, 0x42, 0x36)] : List (Call × Nat × Byte × Byte)),
      s.port = [] → s.session.running = none → s.session.calls = p.1 :: cs →
      ∃ t, runSteps (p.2.1 + 2) s = .next t ∧ t.block = s.block
        ∧ t.link = { s.link with
            tx := s.link.tx ++ (List.replicate p.2.1 [0x81, 0x73, p.2.2.1, p.2.2.2]).flatten }
        ∧ t.session =
          { s.session with calls := cs, running := none, results := s.session.results ++ [.returned .nothing] }
end

