-- ==== Sys2Proof/Laws/State.lean ====
section
/-! SUPPORT. One lemma per field per update of the state and of the block, all by unfolding, for simp. -/

namespace Sys2Proof.Machine

@[simp] theorem State.after_block (s : State) (b : Block) (o : Output) : (s.after b o).block = b := rfl
@[simp] theorem State.after_out (s : State) (b : Block) (o : Output) : (s.after b o).out = o := rfl
@[simp] theorem State.after_traceFitted (s : State) (b : Block) (o : Output) : (s.after b o).traceFitted = s.traceFitted := rfl
@[simp] theorem State.after_port (s : State) (b : Block) (o : Output) : (s.after b o).port = s.port := rfl
@[simp] theorem State.after_session (s : State) (b : Block) (o : Output) : (s.after b o).session = s.session := rfl
@[simp] theorem State.after_link (s : State) (b : Block) (o : Output) : (s.after b o).link = s.link := rfl

@[simp] theorem State.proceed_block (s : State) (c : Call) (acts : List HostAct) : (s.proceed c acts).block = s.block := rfl
@[simp] theorem State.proceed_out (s : State) (c : Call) (acts : List HostAct) : (s.proceed c acts).out = s.out := rfl
@[simp] theorem State.proceed_traceFitted (s : State) (c : Call) (acts : List HostAct) : (s.proceed c acts).traceFitted = s.traceFitted := rfl
@[simp] theorem State.proceed_port (s : State) (c : Call) (acts : List HostAct) : (s.proceed c acts).port = s.port := rfl
@[simp] theorem State.proceed_session (s : State) (c : Call) (acts : List HostAct) : (s.proceed c acts).session = { s.session with running := some { call := c, acts := acts } } := rfl
@[simp] theorem State.proceed_link (s : State) (c : Call) (acts : List HostAct) : (s.proceed c acts).link = s.link := rfl

@[simp] theorem State.finish_block (s : State) (r : HostResult) : (s.finish r).block = s.block := rfl
@[simp] theorem State.finish_out (s : State) (r : HostResult) : (s.finish r).out = s.out := rfl
@[simp] theorem State.finish_traceFitted (s : State) (r : HostResult) : (s.finish r).traceFitted = s.traceFitted := rfl
@[simp] theorem State.finish_port (s : State) (r : HostResult) : (s.finish r).port = s.port := rfl
@[simp] theorem State.finish_session (s : State) (r : HostResult) : (s.finish r).session = { s.session with running := none, results := s.session.results ++ [r] } := rfl
@[simp] theorem State.finish_link (s : State) (r : HostResult) : (s.finish r).link = s.link := rfl

@[simp] theorem State.writeCommand_block (s : State) : (s.writeCommand).block = s.block := rfl
@[simp] theorem State.writeCommand_out (s : State) : (s.writeCommand).out = s.out := rfl
@[simp] theorem State.writeCommand_traceFitted (s : State) : (s.writeCommand).traceFitted = s.traceFitted := rfl
@[simp] theorem State.writeCommand_port (s : State) : (s.writeCommand).port = s.port := rfl
@[simp] theorem State.writeCommand_session (s : State) : (s.writeCommand).session = s.session := rfl
@[simp] theorem State.writeCommand_link (s : State) : (s.writeCommand).link = s.link.write ((s.out.cmdOut.map Vector.toList).getD []) := rfl

@[simp] theorem State.withRequest_block (s : State) (r : Request) : (s.withRequest r).block = s.block := rfl
@[simp] theorem State.withRequest_out (s : State) (r : Request) : (s.withRequest r).out = s.out := rfl
@[simp] theorem State.withRequest_traceFitted (s : State) (r : Request) : (s.withRequest r).traceFitted = s.traceFitted := rfl
@[simp] theorem State.withRequest_port (s : State) (r : Request) : (s.withRequest r).port = r :: s.port := rfl
@[simp] theorem State.withRequest_session (s : State) (r : Request) : (s.withRequest r).session = s.session := rfl
@[simp] theorem State.withRequest_link (s : State) (r : Request) : (s.withRequest r).link = s.link := rfl

@[simp] theorem startFrame_acc (b : Block) : (startFrame b).acc = b.acc := rfl
@[simp] theorem startFrame_buf (b : Block) : (startFrame b).buf = b.buf := rfl
@[simp] theorem startFrame_cnt (b : Block) : (startFrame b).cnt = 0 := rfl
@[simp] theorem startFrame_busy (b : Block) : (startFrame b).busy = true := rfl
@[simp] theorem startFrame_res (b : Block) : (startFrame b).res = Config.resNone := rfl
@[simp] theorem startFrame_errActual (b : Block) : (startFrame b).errActual = 0 := rfl
@[simp] theorem startFrame_errExpected (b : Block) : (startFrame b).errExpected = 0 := rfl
@[simp] theorem startFrame_lat (b : Block) : (startFrame b).lat = b.lat := rfl
@[simp] theorem startFrame_latValid (b : Block) : (startFrame b).latValid = b.latValid := rfl

@[simp] theorem raiseError_acc (code : BitVec 3) (x y : Byte) (b : Block) : (raiseError code x y b).acc = b.acc := rfl
@[simp] theorem raiseError_buf (code : BitVec 3) (x y : Byte) (b : Block) : (raiseError code x y b).buf = b.buf := rfl
@[simp] theorem raiseError_cnt (code : BitVec 3) (x y : Byte) (b : Block) : (raiseError code x y b).cnt = b.cnt := rfl
@[simp] theorem raiseError_busy (code : BitVec 3) (x y : Byte) (b : Block) : (raiseError code x y b).busy = false := rfl
@[simp] theorem raiseError_res (code : BitVec 3) (x y : Byte) (b : Block) : (raiseError code x y b).res = code := rfl
@[simp] theorem raiseError_errActual (code : BitVec 3) (x y : Byte) (b : Block) : (raiseError code x y b).errActual = x := rfl
@[simp] theorem raiseError_errExpected (code : BitVec 3) (x y : Byte) (b : Block) : (raiseError code x y b).errExpected = y := rfl
@[simp] theorem raiseError_lat (code : BitVec 3) (x y : Byte) (b : Block) : (raiseError code x y b).lat = b.lat := rfl
@[simp] theorem raiseError_latValid (code : BitVec 3) (x y : Byte) (b : Block) : (raiseError code x y b).latValid = b.latValid := rfl

@[simp] theorem latchFrame_acc (b : Block) : (latchFrame b).acc = b.acc := rfl
@[simp] theorem latchFrame_buf (b : Block) : (latchFrame b).buf = b.buf := rfl
@[simp] theorem latchFrame_cnt (b : Block) : (latchFrame b).cnt = 0 := rfl
@[simp] theorem latchFrame_busy (b : Block) : (latchFrame b).busy = false := rfl
@[simp] theorem latchFrame_res (b : Block) : (latchFrame b).res = Config.resOk := rfl
@[simp] theorem latchFrame_errActual (b : Block) : (latchFrame b).errActual = b.errActual := rfl
@[simp] theorem latchFrame_errExpected (b : Block) : (latchFrame b).errExpected = b.errExpected := rfl
@[simp] theorem latchFrame_lat (b : Block) : (latchFrame b).lat = b.buf := rfl
@[simp] theorem latchFrame_latValid (b : Block) : (latchFrame b).latValid = true := rfl

@[simp] theorem State.raiseHost_block (s : State) (c : Call) (e : HostError) :
    (s.raiseHost c e).block = s.block := by
  unfold State.raiseHost
  split <;> rfl

@[simp] theorem State.raiseHost_out (s : State) (c : Call) (e : HostError) :
    (s.raiseHost c e).out = s.out := by
  unfold State.raiseHost
  split <;> rfl

@[simp] theorem State.raiseHost_traceFitted (s : State) (c : Call) (e : HostError) :
    (s.raiseHost c e).traceFitted = s.traceFitted := by
  unfold State.raiseHost
  split <;> rfl

@[simp] theorem State.raiseHost_port (s : State) (c : Call) (e : HostError) :
    (s.raiseHost c e).port = s.port := by
  unfold State.raiseHost
  split <;> rfl

@[simp] theorem State.raiseHost_link (s : State) (c : Call) (e : HostError) :
    (s.raiseHost c e).link = s.link := by
  unfold State.raiseHost
  split <;> rfl

@[simp] theorem Link.write_rx (l : Link) (bytes : List Byte) : (l.write bytes).rx = l.rx := rfl
@[simp] theorem Link.write_arrivals (l : Link) (bytes : List Byte) : (l.write bytes).arrivals = l.arrivals := rfl
@[simp] theorem Link.write_tx (l : Link) (bytes : List Byte) : (l.write bytes).tx = l.tx ++ bytes := rfl

@[simp] theorem Output.quiet_cmdOut : Output.quiet.cmdOut = none := rfl
@[simp] theorem Output.quiet_done : Output.quiet.done = false := rfl
@[simp] theorem Output.quiet_trace : Output.quiet.trace = none := rfl

end Sys2Proof.Machine
end

