-- ==== Sys2Proof/Laws/Ops.lean ====
section
/-! SUPPORT. For each shared operation, once, everything it can do; the provers cite these instead of unfolding. -/

namespace Sys2Proof.Machine

/-- The checksum of a longer sequence, one byte at a time (40 R100). -/
theorem csum8_cons (b : Byte) (s : List Byte) : csum8 (b :: s) = b + csum8 s := by
  simp [csum8, low8, BitVec.ofNat_add]

/-- The empty sum (40 R100). -/
@[simp] theorem csum8_nil : csum8 [] = 0 := rfl

/-- `acc`'s addition is the 8-bit one (40 R105). -/
theorem low8_add_toNat (a b : Byte) : low8 (a.toNat + b.toNat) = a + b := by
  simp [low8, BitVec.ofNat_add]

/-- A command's checksum is `0xF4 + opcode` (30 R72). -/
theorem commandChecksum_eq (o : Byte) : commandChecksum o = 0xF4 + o := by
  simp [commandChecksum, csum8_cons, Config.hdr0, Config.hdr1, ← BitVec.add_assoc]

/-- A frame as the list of its twenty bytes. -/
theorem frame_toList (f : Frame) : f.toList = [f[0], f[1], f[2], f[3], f[4], f[5], f[6], f[7], f[8], f[9], f[10],
    f[11], f[12], f[13], f[14], f[15], f[16], f[17], f[18], f[19]] := by
  apply List.ext_getElem
  · simp
  · intro i h1 h2
    simp only [List.length_cons, List.length_nil] at h2
    interval_cases i <;> simp

/-- The bytes under the status checksum, one by one (30 R79). -/
theorem frameBytes_two_eighteen (f : Frame) : frameBytes f 2 18 = [f[2], f[3], f[4], f[5], f[6], f[7], f[8], f[9],
    f[10], f[11], f[12], f[13], f[14], f[15], f[16], f[17], f[18]] := by
  unfold frameBytes
  rw [frame_toList]
  simp only [List.drop_succ_cons, List.drop_zero, List.take_succ_cons, List.take_zero, Nat.reduceAdd, Nat.reduceSub]

/-- The shift seen as a list: the oldest byte leaves, the new one comes last. -/
@[simp] theorem shiftFrame_toList (f : Frame) (b : Byte) : (shiftFrame f b).toList = f.toList.tail ++ [b] := rfl

/-- The shift moves every byte one place toward index 0. -/
theorem shiftFrame_getElem_of_lt (f : Frame) (b : Byte) (i : Nat) (h : i < 19) :
    (shiftFrame f b)[i] = f[i + 1] := by
  have e : (shiftFrame f b)[i] = (f.toList.tail ++ [b])[i]'(by simp; omega) := rfl
  rw [e, List.getElem_append_left (by simp; omega), List.getElem_tail]
  simp

/-- The new byte enters at index 19. -/
@[simp] theorem shiftFrame_getElem_last (f : Frame) (b : Byte) : (shiftFrame f b)[19] = b := by
  have e : (shiftFrame f b)[19] = (f.toList.tail ++ [b])[19]'(by simp) := rfl
  rw [e, List.getElem_append_right (by simp)]
  simp

/-- Twenty bytes and more begin with a frame. -/
theorem frameOf_append (f : Frame) (more : List Byte) : frameOf (f.toList ++ more) = some f := by
  have h : (f.toList ++ more).take 20 = f.toList := by simp
  unfold frameOf
  rw [dif_pos (by simp)]
  congr 1
  apply Vector.toList_inj.mp
  exact h

/-- Fewer bytes are no frame. -/
theorem frameOf_short {raw : List Byte} (h : raw.length < 20) : frameOf raw = none := by
  unfold frameOf
  rw [dif_neg (by omega)]

/-- A completed frame is one of three: refused for its count, refused for its checksum, or latched. -/
theorem completeFrame_cases (b : Block) :
    (b.buf[2] ≠ Config.countExpected
      ∧ completeFrame b
        = { raiseError Config.resUnexpectedCount b.buf[2] Config.countExpected b with cnt := 0 })
    ∨ (b.buf[2] = Config.countExpected ∧ csum8 (summedBytes b.buf) ≠ b.buf[19]
      ∧ completeFrame b
        = { raiseError Config.resChecksumMismatch b.buf[19] (csum8 (summedBytes b.buf)) b with cnt := 0 })
    ∨ (b.buf[2] = Config.countExpected ∧ csum8 (summedBytes b.buf) = b.buf[19]
      ∧ completeFrame b = latchFrame b) := by
  unfold completeFrame
  by_cases h2 : b.buf[2] = Config.countExpected
  · by_cases h3 : csum8 (summedBytes b.buf) = b.buf[19]
    · exact .inr (.inr ⟨h2, h3, by simp [h2, h3]⟩)
    · exact .inr (.inl ⟨h2, h3, by simp [h2, h3]⟩)
  · exact .inl ⟨h2, by simp [h2]⟩

/-- An accepted byte is shifted in; then the count goes up, or the frame completes, or (above 19) nothing more. -/
theorem acceptByte_cases (byte : Byte) (b : Block) :
    (b.cnt.toNat ≤ 18 ∧ acceptByte byte b = { b with buf := shiftFrame b.buf byte, cnt := b.cnt + 1 })
    ∨ (b.cnt.toNat = 19 ∧ acceptByte byte b = completeFrame { b with buf := shiftFrame b.buf byte })
    ∨ (19 < b.cnt.toNat ∧ acceptByte byte b = { b with buf := shiftFrame b.buf byte }) := by
  unfold acceptByte
  by_cases h : b.cnt.toNat ≤ 18
  · exact .inl ⟨h, by simp [h]⟩
  · by_cases h' : b.cnt.toNat = 19
    · exact .inr (.inl ⟨h', by simp [h']⟩)
    · exact .inr (.inr ⟨by omega, by simp [h, h']⟩)

/-- A completed frame leaves the accumulator. -/
@[simp] theorem completeFrame_acc (b : Block) : (completeFrame b).acc = b.acc := by
  rcases completeFrame_cases b with ⟨_, e⟩ | ⟨_, _, e⟩ | ⟨_, _, e⟩ <;> simp [e]

/-- A completed frame leaves the shift register. -/
@[simp] theorem completeFrame_buf (b : Block) : (completeFrame b).buf = b.buf := by
  rcases completeFrame_cases b with ⟨_, e⟩ | ⟨_, _, e⟩ | ⟨_, _, e⟩ <;> simp [e]

/-- A completed frame leaves the parser idle. -/
@[simp] theorem completeFrame_busy (b : Block) : (completeFrame b).busy = false := by
  rcases completeFrame_cases b with ⟨_, e⟩ | ⟨_, _, e⟩ | ⟨_, _, e⟩ <;> simp [e]

/-- A completed frame clears the count. -/
@[simp] theorem completeFrame_cnt (b : Block) : (completeFrame b).cnt = 0 := by
  rcases completeFrame_cases b with ⟨_, e⟩ | ⟨_, _, e⟩ | ⟨_, _, e⟩ <;> simp [e]

/-- A meaning ends in a next state, or in the refusal of a frame with a wrong checksum. -/
theorem exec_next_or_badChecksum (i : Instr) (s : State) :
    (∃ b o, exec i s = .next (s.after b o))
    ∨ (∃ k c, i = .cmdFrame k c ∧ c ≠ commandChecksum k ∧ exec i s = .refused .badCommandChecksum) := by
  cases i with
  | cmdFrame k c =>
    by_cases h : c = commandChecksum k
    · exact .inl ⟨_, _, by simp only [exec, execCmdFrame, h, if_true]; rfl⟩
    · exact .inr ⟨k, c, rfl, h, by simp [exec, execCmdFrame, h]⟩
  | fpByte b =>
    refine .inl ?_
    by_cases h : s.block.busy = true
    · exact ⟨_, _, by simp only [exec, execFpByte, h, if_true]; rfl⟩
    · exact ⟨_, _, by simp only [exec, execFpByte, h, Bool.false_eq_true, if_false]; rfl⟩
  | fpEnd =>
    refine .inl ?_
    by_cases h : s.block.busy = true
    · exact ⟨_, _, by simp only [exec, execFpEnd, h, if_true]; rfl⟩
    · exact ⟨_, _, by simp only [exec, execFpEnd, h, Bool.false_eq_true, if_false]; rfl⟩
  | _ => exact .inl ⟨_, _, rfl⟩

/-- A meaning changes nothing outside the block and its outputs. -/
theorem exec_next_eq_after {i : Instr} {s t : State} (h : exec i s = .next t) : t = s.after t.block t.out := by
  rcases exec_next_or_badChecksum i s with ⟨b, o, hb⟩ | ⟨_, _, _, _, hb⟩
  · rw [hb] at h
    cases h
    rfl
  · rw [hb] at h
    cases h

/-- An accepted byte leaves the accumulator. -/
@[simp] theorem acceptByte_acc (byte : Byte) (b : Block) : (acceptByte byte b).acc = b.acc := by
  rcases acceptByte_cases byte b with ⟨_, e⟩ | ⟨_, e⟩ | ⟨_, e⟩ <;> simp [e]

/-- An accepted byte is shifted in, whatever the count. -/
@[simp] theorem acceptByte_buf (byte : Byte) (b : Block) :
    (acceptByte byte b).buf = shiftFrame b.buf byte := by
  rcases acceptByte_cases byte b with ⟨_, e⟩ | ⟨_, e⟩ | ⟨_, e⟩ <;> simp [e]

/-- What an operation that leaves the parser alone leaves: every element but the accumulator. -/
theorem exec_parser_untouched {i : Instr} {s t : State} (hi : drivesParser i = false) (h : exec i s = .next t) :
    t.block = { s.block with acc := t.block.acc } ∧ t.out.done = false := by
  cases i <;> simp only [drivesParser, Bool.true_eq_false] at hi <;> simp only [exec] at h
  case cmdFrame o c =>
    unfold execCmdFrame at h
    split at h
    · cases h
      exact ⟨rfl, rfl⟩
    · cases h
  all_goals
    cases h
    exact ⟨rfl, rfl⟩

/-- What an operation that leaves the accumulator alone leaves. -/
theorem exec_accumulator_untouched {i : Instr} {s t : State} (hi : drivesAccumulator i = false)
    (h : exec i s = .next t) : t.block.acc = s.block.acc := by
  cases i <;> simp only [drivesAccumulator, Bool.true_eq_false] at hi <;> simp only [exec] at h
  case cmdFrame o c =>
    unfold execCmdFrame at h
    split at h <;> cases h
    rfl
  case fpByte b =>
    unfold execFpByte at h
    split at h <;> cases h
    · simp
    · rfl
  case fpEnd =>
    unfold execFpEnd at h
    split at h <;> cases h <;> rfl
  all_goals
    cases h
    rfl

/-- A well-formed instruction always answers a next state. -/
theorem exec_wellFormed_next {i : Instr} (hi : i.wellFormed = true) (s : State) :
    ∃ b o, exec i s = .next (s.after b o) := by
  rcases exec_next_or_badChecksum i s with h | ⟨k, c, rfl, hc, _⟩
  · exact h
  · simp [Instr.wellFormed, hc] at hi

/-- A read takes the first bytes there are and leaves the rest. -/
theorem Link.read_append (l : Link) (n : Nat) : (l.read n).1 ++ (l.read n).2.rx = l.available := by
  simp [Link.read]

/-- A read writes nothing. -/
@[simp] theorem Link.read_tx (l : Link) (n : Nat) : (l.read n).2.tx = l.tx := rfl

/-- `send(o)` is `CMD_ENC o` with its frame appended to what was written. -/
theorem sendStep_eq (o : Byte) (s : State) :
    sendStep o s
      = .next { s.after s.block { cmdOut := some (commandFrame o), done := false, trace := none } with
                link := s.link.write (commandFrame o).toList } := rfl

/-- A view is read as the latch stands, or the step faults. -/
theorem viewStep_cases (s : State) (act : Frame → State) :
    (s.block.latValid = true ∧ viewStep s act = exec .nop (act s.block.lat))
    ∨ (s.block.latValid = false ∧ viewStep s act = .fault .readInvalidLatch) := by
  unfold viewStep Block.latched
  cases h : s.block.latValid <;> simp

/-- A host error ends the operation, or begins it again. -/
theorem State.raiseHost_cases (s : State) (c : Call) (e : HostError) :
    ((c, e) ∈ s.session.retryOn ∧ s.raiseHost c e = s.proceed c (expandCall s.session.doubleRefresh c))
    ∨ ((c, e) ∉ s.session.retryOn ∧ s.raiseHost c e = s.finish (.raised e)) := by
  unfold State.raiseHost
  by_cases h : (c, e) ∈ s.session.retryOn
  · exact .inl ⟨h, by simp [h]⟩
  · exact .inr ⟨h, by simp [h]⟩

/-- `MemRead(0, 2)` is the little-endian value of the first two bytes, as the system id view has it (43 R191). -/
theorem memRead_system_id (f : Frame) : memRead f 0 2 = some (f[0].toNat + 256 * f[1].toNat) := by
  have h : (f.toList.drop 0).take 2 = [f[0], f[1]] := by
    apply List.ext_getElem
    · simp
    · intro i h1 h2
      simp at h2
      have : i = 0 ∨ i = 1 := by omega
      rcases this with rfl | rfl <;> simp
  simp only [memRead, h, littleEndian]
  simp

end Sys2Proof.Machine
end

