-- ==== Sys2Proof/Laws/PerInstr.lean ====
section
/-! SUPPORT. The family EncodingFitsRow: the word the encoder writes has the fixed bits of the instruction's own row of
spec/opcode_table.json, and is a well-formed request. -/

namespace Sys2Proof.Laws.EncodingFitsRow

/-- A request has the bits a row fixes: format, mask and pattern as the table has them. -/
def fits (r : Request) (cmd : Bool) (mask pattern : Nat) : Bool :=
  match r with
  | .frame w => cmd && (w.toNat &&& mask == pattern)
  | .op w => !cmd && (w.toNat &&& mask == pattern)
  | .rst _ => false

/-- The mask and pattern of each instruction's row; `RESET` has none and is the pin (30 R89). -/
def rowHolds (i : Instr) (r : Request) : Bool :=
  match i with
  | .pwrOn => fits r true 0xFFFFFFFF 0x817301F5
  | .pwrOff => fits r true 0xFFFFFFFF 0x817302F6
  | .z2PwrTgl => fits r true 0xFFFFFFFF 0x81733F33
  | .volUp => fits r true 0xFFFFFFFF 0x81730F03
  | .volDn => fits r true 0xFFFFFFFF 0x81731004
  | .z2VolUp => fits r true 0xFFFFFFFF 0x81734135
  | .z2VolDn => fits r true 0xFFFFFFFF 0x81734236
  | .muteTgl => fits r true 0xFFFFFFFF 0x81731105
  | .z2MuteTgl => fits r true 0xFFFFFFFF 0x81734337
  | .toneDirectTgl => fits r true 0xFFFFFFFF 0x81731509
  | .statusReq => fits r true 0xFFFFFFFF 0x81735347
  | .selFm => fits r true 0xFFFFFFFF 0x817303F7
  | .selTuner => fits r true 0xFFFFFFFF 0x817305F9
  | .selTunerAm => fits r true 0xFFFFFFFF 0x817306FA
  | .selCd => fits r true 0xFFFFFFFF 0x817307FB
  | .selAux => fits r true 0xFFFFFFFF 0x817308FC
  | .selPhono => fits r true 0xFFFFFFFF 0x817309FD
  | .selDvd => fits r true 0xFFFFFFFF 0x81730AFE
  | .selTape => fits r true 0xFFFFFFFF 0x81730BFF
  | .z2SelFm => fits r true 0xFFFFFFFF 0x81734135
  | .z2SelTuner => fits r true 0xFFFFFFFF 0x81734337
  | .z2SelTunerAm => fits r true 0xFFFFFFFF 0x81734438
  | .z2SelCd => fits r true 0xFFFFFFFF 0x81734539
  | .z2SelAux => fits r true 0xFFFFFFFF 0x8173463A
  | .z2SelPhono => fits r true 0xFFFFFFFF 0x8173473B
  | .z2SelDvd => fits r true 0xFFFFFFFF 0x8173483C
  | .z2SelTape => fits r true 0xFFFFFFFF 0x8173493D
  | .cmdFrame _ _ => fits r true 0xFFFF0000 0x81730000
  | .nop => fits r false 0x700 0x000
  | .csClr => fits r false 0x700 0x100
  | .csAdd _ => fits r false 0x700 0x200
  | .cmdEnc _ => fits r false 0x700 0x300
  | .fpStart => fits r false 0x700 0x400
  | .fpByte _ => fits r false 0x700 0x500
  | .fpEnd => fits r false 0x700 0x600
  | .reserved7 => fits r false 0x700 0x700
  | .reset => r == .rst 0

/-- The encoding of a well-formed instruction fits its row and is a well-formed request. -/
def Statement (i : Instr) : Prop :=
  i.wellFormed = true → rowHolds i (encode i) = true ∧ (encode i).wellFormed = true

theorem pwrOn : Statement .pwrOn := by
  unfold Statement
  decide

theorem pwrOff : Statement .pwrOff := by
  unfold Statement
  decide

theorem z2PwrTgl : Statement .z2PwrTgl := by
  unfold Statement
  decide

theorem volUp : Statement .volUp := by
  unfold Statement
  decide

theorem volDn : Statement .volDn := by
  unfold Statement
  decide

theorem z2VolUp : Statement .z2VolUp := by
  unfold Statement
  decide

theorem z2VolDn : Statement .z2VolDn := by
  unfold Statement
  decide

theorem muteTgl : Statement .muteTgl := by
  unfold Statement
  decide

theorem z2MuteTgl : Statement .z2MuteTgl := by
  unfold Statement
  decide

theorem toneDirectTgl : Statement .toneDirectTgl := by
  unfold Statement
  decide

theorem statusReq : Statement .statusReq := by
  unfold Statement
  decide

theorem selFm : Statement .selFm := by
  unfold Statement
  decide

theorem selTuner : Statement .selTuner := by
  unfold Statement
  decide

theorem selTunerAm : Statement .selTunerAm := by
  unfold Statement
  decide

theorem selCd : Statement .selCd := by
  unfold Statement
  decide

theorem selAux : Statement .selAux := by
  unfold Statement
  decide

theorem selPhono : Statement .selPhono := by
  unfold Statement
  decide

theorem selDvd : Statement .selDvd := by
  unfold Statement
  decide

theorem selTape : Statement .selTape := by
  unfold Statement
  decide

theorem z2SelFm : Statement .z2SelFm := by
  unfold Statement
  decide

theorem z2SelTuner : Statement .z2SelTuner := by
  unfold Statement
  decide

theorem z2SelTunerAm : Statement .z2SelTunerAm := by
  unfold Statement
  decide

theorem z2SelCd : Statement .z2SelCd := by
  unfold Statement
  decide

theorem z2SelAux : Statement .z2SelAux := by
  unfold Statement
  decide

theorem z2SelPhono : Statement .z2SelPhono := by
  unfold Statement
  decide

theorem z2SelDvd : Statement .z2SelDvd := by
  unfold Statement
  decide

theorem z2SelTape : Statement .z2SelTape := by
  unfold Statement
  decide

theorem frame_fits : ∀ o : Byte,
    Statement (.cmdFrame o (Machine.commandChecksum o)) := by
  unfold Statement
  decide +revert

theorem cmdFrame (o c : Byte) : Statement (.cmdFrame o c) := by
  intro h
  have hc : c = Machine.commandChecksum o := by simpa [Instr.wellFormed] using h
  subst hc
  exact frame_fits o h

theorem nop : Statement .nop := by
  unfold Statement
  decide

theorem csClr : Statement .csClr := by
  unfold Statement
  decide

theorem csAdd (b : Byte) : Statement (.csAdd b) := by
  unfold Statement
  revert b
  decide

theorem cmdEnc (o : Byte) : Statement (.cmdEnc o) := by
  unfold Statement
  revert o
  decide

theorem fpStart : Statement .fpStart := by
  unfold Statement
  decide

theorem fpByte (b : Byte) : Statement (.fpByte b) := by
  unfold Statement
  revert b
  decide

theorem fpEnd : Statement .fpEnd := by
  unfold Statement
  decide

theorem reserved7 : Statement .reserved7 := by
  unfold Statement
  decide

theorem reset : Statement .reset := by
  unfold Statement
  decide

end Sys2Proof.Laws.EncodingFitsRow
end

