-- ==== Sys2Proof/Tests/Slice0.lean ====
section
/-! SUPPORT. Tests: expected values are the spec's own (95_test_vectors, and the examples of the rules named), and witnesses
that the hypotheses of each obligation can be met. -/

namespace Sys2Proof.Tests
open Sys2Proof.Machine

/-- The standard frame V2 of 95_test_vectors. -/
def v2 : Frame :=
  #v[0x34, 0x12, 0x10, 0x43, 0x44, 0x20, 0x20, 0x20, 0x20, 0x20, 0x20, 0x20, 0x20, 0x01, 0x04, 0x00, 0x2D, 0x1E, 0x00,
     0xE7]

/-- The example of 42 R166: V2 with the count byte 15. -/
def v2Count : Frame := v2.set 2 0x0F

/-- The example of 42 R167: V2 with a wrong checksum byte. -/
def v2Sum : Frame := v2.set 19 0xE6

/-- An idle block that has accepted V2, with `acc = 0xF4`. -/
def idle : Block where
  acc := 0xF4
  buf := v2
  cnt := 0
  busy := false
  res := 1
  errActual := 0
  errExpected := 0
  lat := v2
  latValid := true

/-- A block that has received all but the last byte of a frame, no frame accepted yet. -/
def receiving (f : Frame) : Block :=
  { idle with
    buf := Vector.mk (0 :: f.toList.take 19).toArray (by simp), cnt := 19, busy := true, res := 0, latValid := false }

/-- A block that has recorded an error. -/
def failed (code : BitVec 3) (actual expected : Byte) : Block :=
  { idle with res := code, errActual := actual, errExpected := expected }

/-- The machine around a block. -/
def around (b : Block) : State := { State.reset with block := b }

/-- The block and the outputs after an operation, if it answers a next state. -/
def after (i : Instr) (b : Block) : Option (Block × Output) :=
  match exec i (around b) with
  | .next t => some (t.block, t.out)
  | .fault _ => none
  | .refused _ => none

/-- The outputs of a step that presents a command frame. -/
def emits (a b c d : Byte) : Output := { cmdOut := some #v[a, b, c, d], done := false, trace := none }

/-- The outputs of the step in which a decode finishes. -/
def finishes : Output := { cmdOut := none, done := true, trace := none }

/-! ### Well-formedness -/

theorem test_wf_frame : (Request.frame 0x81735347).wellFormed = true := by decide
theorem test_wf_first_header_byte : (Request.frame 0x80735347).wellFormed = false := by decide
theorem test_wf_second_header_byte : (Request.frame 0x81725347).wellFormed = false := by decide
theorem test_wf_checksum : (Request.frame 0x81735348).wellFormed = false := by decide
theorem test_wf_general_frame : (Instr.cmdFrame 0x00 0x00).wellFormed = false := by decide
theorem test_wf_general_frame_good : (Instr.cmdFrame 0x00 0xF4).wellFormed = true := by decide
theorem test_bad_header_decodes_to_nothing : decode (.frame 0x80735347) = .error .notACommandFrame := by decide
theorem test_bad_width_decodes_to_nothing : decodeTableWord 24 0x817353 = none := by decide

/-! ### Decoding: one word for each constructor, from 30 R83, R84 and the opcode table's encodings -/

theorem test_decode_pwrOn : decodeTableWord 32 0b10000001011100110000000111110101 = some .pwrOn := by decide
theorem test_decode_pwrOff : decodeTableWord 32 0b10000001011100110000001011110110 = some .pwrOff := by decide
theorem test_decode_z2PwrTgl : decodeTableWord 32 0b10000001011100110011111100110011 = some .z2PwrTgl := by decide
theorem test_decode_volUp : decodeTableWord 32 0b10000001011100110000111100000011 = some .volUp := by decide
theorem test_decode_volDn : decodeTableWord 32 0b10000001011100110001000000000100 = some .volDn := by decide
theorem test_decode_z2VolUp : decodeTableWord 32 0b10000001011100110100000100110101 = some .z2VolUp := by decide
theorem test_decode_z2VolDn : decodeTableWord 32 0b10000001011100110100001000110110 = some .z2VolDn := by decide
theorem test_decode_muteTgl : decodeTableWord 32 0b10000001011100110001000100000101 = some .muteTgl := by decide
theorem test_decode_z2MuteTgl : decodeTableWord 32 0b10000001011100110100001100110111 = some .z2MuteTgl := by decide
theorem test_decode_toneDirectTgl : decodeTableWord 32 0b10000001011100110001010100001001 = some .toneDirectTgl := by decide
theorem test_decode_statusReq : decodeTableWord 32 0b10000001011100110101001101000111 = some .statusReq := by decide
theorem test_decode_selFm : decodeTableWord 32 0b10000001011100110000001111110111 = some .selFm := by decide
theorem test_decode_selTuner : decodeTableWord 32 0b10000001011100110000010111111001 = some .selTuner := by decide
theorem test_decode_selTunerAm : decodeTableWord 32 0b10000001011100110000011011111010 = some .selTunerAm := by decide
theorem test_decode_selCd : decodeTableWord 32 0b10000001011100110000011111111011 = some .selCd := by decide
theorem test_decode_selAux : decodeTableWord 32 0b10000001011100110000100011111100 = some .selAux := by decide
theorem test_decode_selPhono : decodeTableWord 32 0b10000001011100110000100111111101 = some .selPhono := by decide
theorem test_decode_selDvd : decodeTableWord 32 0b10000001011100110000101011111110 = some .selDvd := by decide
theorem test_decode_selTape : decodeTableWord 32 0b10000001011100110000101111111111 = some .selTape := by decide
theorem test_decode_z2SelFm : decodeTableWord 32 0b10000001011100110100000100110101 = some .z2VolUp
    ∧ decodeAll (.frame 0b10000001011100110100000100110101) = [.z2VolUp, .z2SelFm, .cmdFrame 0x41 0x35] := by decide
theorem test_decode_z2SelTuner : decodeTableWord 32 0b10000001011100110100001100110111 = some .z2MuteTgl
    ∧ decodeAll (.frame 0b10000001011100110100001100110111) = [.z2MuteTgl, .z2SelTuner, .cmdFrame 0x43 0x37] := by decide
theorem test_decode_z2SelTunerAm : decodeTableWord 32 0b10000001011100110100010000111000 = some .z2SelTunerAm := by decide
theorem test_decode_z2SelCd : decodeTableWord 32 0b10000001011100110100010100111001 = some .z2SelCd := by decide
theorem test_decode_z2SelAux : decodeTableWord 32 0b10000001011100110100011000111010 = some .z2SelAux := by decide
theorem test_decode_z2SelPhono : decodeTableWord 32 0b10000001011100110100011100111011 = some .z2SelPhono := by decide
theorem test_decode_z2SelDvd : decodeTableWord 32 0b10000001011100110100100000111100 = some .z2SelDvd := by decide
theorem test_decode_z2SelTape : decodeTableWord 32 0b10000001011100110100100100111101 = some .z2SelTape := by decide
theorem test_decode_cmdFrame : decodeTableWord 32 0b10000001011100110000110000000000 = some (.cmdFrame 0x0C 0x00) := by decide
theorem test_decode_nop : decodeTableWord 16 0b00010101011 = some .nop := by decide
theorem test_decode_csClr : decodeTableWord 16 0b00100000000 = some .csClr := by decide
theorem test_decode_csAdd : decodeTableWord 16 0b01001010011 = some (.csAdd 0x53) := by decide
theorem test_decode_cmdEnc : decodeTableWord 16 0b01101010011 = some (.cmdEnc 0x53) := by decide
theorem test_decode_fpStart : decodeTableWord 16 0b10000000000 = some .fpStart := by decide
theorem test_decode_fpByte : decodeTableWord 16 0b10111100111 = some (.fpByte 0xE7) := by decide
theorem test_decode_fpEnd : decodeTableWord 16 0b11000000000 = some .fpEnd := by decide
theorem test_decode_reserved7 : decodeTableWord 16 0b11110101011 = some .reserved7 := by decide
theorem test_decode_reset : decodeTableWord 8 0b1 = some .reset ∧ decode (.rst 0b10111100111) = .ok .reset := by decide

/-- No two rows of one format overlap but for the general command frame and the two collisions of 30 R83. -/
theorem test_operation_rows_disjoint :
    operationRows.Pairwise fun a b => a.mask &&& b.mask &&& (a.pattern ^^^ b.pattern) ≠ 0 := by decide
theorem test_command_rows_overlap_as_named :
    (commandRows.filter fun a =>
      (commandRows.filter fun b => a.mask &&& b.mask &&& (a.pattern ^^^ b.pattern) = 0).length > 2).map (·.pattern)
      = [0x81734135, 0x81734337, 0x81734135, 0x81734337, 0x81730000] := by decide

/-! ### One step of each instruction -/

theorem test_exec_pwrOn : after .pwrOn idle = some (idle, emits 0x81 0x73 0x01 0xF5) := by decide
theorem test_exec_pwrOff : after .pwrOff idle = some (idle, emits 0x81 0x73 0x02 0xF6) := by decide
theorem test_exec_z2PwrTgl : after .z2PwrTgl idle = some (idle, emits 0x81 0x73 0x3F 0x33) := by decide
theorem test_exec_volUp : after .volUp idle = some (idle, emits 0x81 0x73 0x0F 0x03) := by decide
theorem test_exec_volDn : after .volDn idle = some (idle, emits 0x81 0x73 0x10 0x04) := by decide
theorem test_exec_z2VolUp : after .z2VolUp idle = some (idle, emits 0x81 0x73 0x41 0x35) := by decide
theorem test_exec_z2VolDn : after .z2VolDn idle = some (idle, emits 0x81 0x73 0x42 0x36) := by decide
theorem test_exec_muteTgl : after .muteTgl idle = some (idle, emits 0x81 0x73 0x11 0x05) := by decide
theorem test_exec_z2MuteTgl : after .z2MuteTgl idle = some (idle, emits 0x81 0x73 0x43 0x37) := by decide
theorem test_exec_toneDirectTgl : after .toneDirectTgl idle = some (idle, emits 0x81 0x73 0x15 0x09) := by decide
theorem test_exec_statusReq : after .statusReq idle = some (idle, emits 0x81 0x73 0x53 0x47) := by decide
theorem test_exec_selFm : after .selFm idle = some (idle, emits 0x81 0x73 0x03 0xF7) := by decide
theorem test_exec_selTuner : after .selTuner idle = some (idle, emits 0x81 0x73 0x05 0xF9) := by decide
theorem test_exec_selTunerAm : after .selTunerAm idle = some (idle, emits 0x81 0x73 0x06 0xFA) := by decide
theorem test_exec_selCd : after .selCd idle = some (idle, emits 0x81 0x73 0x07 0xFB) := by decide
theorem test_exec_selAux : after .selAux idle = some (idle, emits 0x81 0x73 0x08 0xFC) := by decide
theorem test_exec_selPhono : after .selPhono idle = some (idle, emits 0x81 0x73 0x09 0xFD) := by decide
theorem test_exec_selDvd : after .selDvd idle = some (idle, emits 0x81 0x73 0x0A 0xFE) := by decide
theorem test_exec_selTape : after .selTape idle = some (idle, emits 0x81 0x73 0x0B 0xFF) := by decide
theorem test_exec_z2SelFm : after .z2SelFm idle = some (idle, emits 0x81 0x73 0x41 0x35) := by decide
theorem test_exec_z2SelTuner : after .z2SelTuner idle = some (idle, emits 0x81 0x73 0x43 0x37) := by decide
theorem test_exec_z2SelTunerAm : after .z2SelTunerAm idle = some (idle, emits 0x81 0x73 0x44 0x38) := by decide
theorem test_exec_z2SelCd : after .z2SelCd idle = some (idle, emits 0x81 0x73 0x45 0x39) := by decide
theorem test_exec_z2SelAux : after .z2SelAux idle = some (idle, emits 0x81 0x73 0x46 0x3A) := by decide
theorem test_exec_z2SelPhono : after .z2SelPhono idle = some (idle, emits 0x81 0x73 0x47 0x3B) := by decide
theorem test_exec_z2SelDvd : after .z2SelDvd idle = some (idle, emits 0x81 0x73 0x48 0x3C) := by decide
theorem test_exec_z2SelTape : after .z2SelTape idle = some (idle, emits 0x81 0x73 0x49 0x3D) := by decide
/-- 95 section 2.2, corner opcodes: the first wrap. -/
theorem test_exec_cmdFrame : after (.cmdFrame 0x0C 0x00) idle = some (idle, emits 0x81 0x73 0x0C 0x00) := by decide
theorem test_exec_cmdFrame_refused : exec (.cmdFrame 0x0C 0x01) (around idle) = .refused .badCommandChecksum := by rfl
/-- 40 R103: a frame being received is not disturbed. -/
theorem test_exec_nop : after .nop (receiving v2) = some (receiving v2, Output.quiet) := by decide
theorem test_exec_csClr : after .csClr (receiving v2) = some ({ receiving v2 with acc := 0 }, Output.quiet) := by decide
/-- 40 R105's example, and the carry it drops. -/
theorem test_exec_csAdd : after (.csAdd 0x53) idle = some ({ idle with acc := 0x47 }, Output.quiet) := by decide
theorem test_exec_csAdd_wraps :
    after (.csAdd 0xFF) { idle with acc := 0xFF } = some ({ idle with acc := 0xFE }, Output.quiet) := by decide
/-- 41 R120: corner cases. -/
theorem test_exec_cmdEnc : after (.cmdEnc 0xFF) idle = some (idle, emits 0x81 0x73 0xFF 0xF3) := by decide
theorem test_exec_cmdEnc_no_wrap : after (.cmdEnc 0x0B) idle = some (idle, emits 0x81 0x73 0x0B 0xFF) := by decide
/-- 42 R163's example. -/
theorem test_exec_fpStart :
    after .fpStart (failed 4 0xE6 0xE7) = some ({ idle with busy := true, res := 0 }, Output.quiet) := by decide
/-- 42 R168's and R167's examples. -/
theorem test_exec_fpByte_accepted : after (.fpByte 0xE7) (receiving v2) = some (idle, finishes) := by decide
theorem test_exec_fpByte_checksum :
    after (.fpByte 0xE6) (receiving v2)
      = some ({ failed 4 0xE6 0xE7 with buf := v2Sum, latValid := false }, finishes) := by decide
/-- 42 R169's example, and R170. -/
theorem test_exec_fpEnd :
    after .fpEnd { idle with cnt := 7, busy := true, res := 0 } = some ({ failed 2 7 20 with cnt := 7 }, finishes) := by
  decide
theorem test_exec_fpEnd_idle : after .fpEnd idle = some (idle, Output.quiet) := by decide
theorem test_exec_reserved7 : after .reserved7 idle = some (idle, Output.quiet) := by decide
theorem test_exec_reset :
    after .reset (receiving v2)
      = some ({ idle with buf := (receiving v2).buf, acc := 0, res := 0, latValid := false }, Output.quiet) := by decide

/-! ### Functions -/

/-- 43 R207: the views of the standard frame. -/
theorem test_views :
    viewSystemId v2 = 0x1234 ∧ viewFlag .power v2 = true ∧ viewFlag .commandRequest v2 = false
    ∧ viewInput v2 = .member .cd ∧ viewZone2Input v2 = .member .fm ∧ viewVolumeDb v2 = some (-31)
    ∧ viewZone2VolumeDb v2 = some (-46) := by decide
/-- 95 E9r: a selector that is no member. -/
theorem test_view_not_a_member : viewZone2Input (v2.set 15 0x59) = .notAMember 0x59 := by decide
/-- 00_scope R13: a read of two bytes is little-endian, one past the frame has no value, and a write is read back. -/
theorem test_memRead : memRead v2 0 2 = some 0x1234 ∧ memRead v2 19 2 = none := by decide
theorem test_memWrite : ((memWrite v2 16 2 0x0102).bind fun f => memRead f 16 2) = some 0x0102 := by decide
/-- 95 S8 and S9: what the checksum does not see; E10 and E11: what it does. -/
theorem test_decode_status :
    decodeStatus v2.toList = .accepted v2 ∧ decodeStatus v2Count.toList = .unexpectedCount 15 16
    ∧ decodeStatus v2Sum.toList = .checksumMismatch 0xE6 0xE7 ∧ decodeStatus (v2.toList.take 7) = .shortFrame 7 20
    ∧ decodeStatus ((v2.set 16 0x2E).set 17 0x1D).toList = .accepted ((v2.set 16 0x2E).set 17 0x1D) := by decide
theorem test_step_takes_the_request :
    ∃ t, step (State.reset.withFetchWord 32 0x81735347) = .next t ∧ t.out = emits 0x81 0x73 0x53 0x47 ∧ t.port = [] :=
  ⟨_, rfl, by decide, rfl⟩
/-! ### Witnesses: the hypotheses of each obligation that has any can be met, each clause at its boundary values -/

theorem test_witness_ResetIsIdempotentAndAbandonsTheFrame :
    (around (receiving v2)).block.busy = true ∧ ∃ t, exec .reset (around (receiving v2)) = .next t :=
  ⟨rfl, _, rfl⟩

theorem test_witness_ChecksumLaws : ([1, 2] : List Byte).Perm [2, 1] ∧ (1 : Byte) ≠ 2 := by decide

theorem test_witness_AccumulatorComputesTheChecksum :
    (∀ ops ∈ [[.csClr], [.csClr, .nop, .csAdd 0x81, .fpStart, .csAdd 0x73, .fpByte 0x10, .csAdd 0x53, .fpEnd, .volUp]],
      ∃ bytes, bytes ∈ ([[], [0x81, 0x73, 0x53]] : List (List Byte))
        ∧ ops.filter drivesAccumulator = .csClr :: bytes.map .csAdd)
    ∧ (∀ i ∈ [Instr.csClr, .nop, .csAdd 0x81, .fpStart, .csAdd 0x73, .fpByte 0x10, .csAdd 0x53, .fpEnd, .volUp],
        i.wellFormed = true) := by decide

theorem test_witness_RoundTripReproducesTheChecksum : idle.legal ∧ idle.latValid = true := by decide

theorem test_witness_CommandEncodingProperties :
    (0x00 : Byte) ≠ 0xFF ∧ (∃ t, exec (.cmdEnc 0xFF) (around idle) = .next t)
    ∧ ∃ t, exec (.cmdEnc 0xFF) (around (receiving v2)) = .next t :=
  ⟨by decide, ⟨_, rfl⟩, _, rfl⟩

theorem test_witness_GeneralFrameIsEmittedIffWellFormed :
    (0xF3 : Byte) = 0xF4 + 0xFF ∧ (0xF4 : Byte) = 0xF4 + 0x00 ∧ (0x00 : Byte) ≠ 0xF4 + 0x00 := by decide

theorem test_witness_FpByteWhileIdleIsDropped : (around idle).block.busy = false := rfl

theorem test_witness_FpByteShiftsTheFrame :
    (∀ c ∈ ([0, 18] : List (BitVec 5)), { receiving v2 with cnt := c }.busy = true
      ∧ { receiving v2 with cnt := c }.cnt.toNat ≤ 18)
    ∧ (receiving v2).busy = true ∧ (receiving v2).cnt = 19
    ∧ ([] : List Byte).length ≤ 20 ∧ v2.toList.length ≤ 20 := by decide

theorem test_witness_TwentiethByteCountWrong :
    (receiving v2Count).busy = true ∧ (receiving v2Count).cnt = 19
    ∧ (shiftFrame (receiving v2Count).buf 0xE7)[2] ≠ 16 := by decide

theorem test_witness_TwentiethByteChecksumWrong :
    let F := shiftFrame (receiving v2).buf 0xE6
    (receiving v2).busy = true ∧ (receiving v2).cnt = 19 ∧ F[2] = 16 ∧ csum8 (frameBytes F 2 18) ≠ F[19] := by decide

theorem test_witness_TwentiethByteLatchesTheFrame :
    let F := shiftFrame (receiving v2).buf 0xE7
    (receiving v2).busy = true ∧ (receiving v2).cnt = 19 ∧ F[2] = 16 ∧ csum8 (frameBytes F 2 18) = F[19]
    ∧ (receiving v2).legal := by decide

theorem test_witness_FpEndWhileReceivingIsAShortFrame :
    ∀ c ∈ ([0, 19] : List (BitVec 5)), { receiving v2 with cnt := c }.busy = true := by decide

theorem test_witness_FpEndWhileIdleDoesNothing : (around idle).block.busy = false := rfl

/-- The operations of a decode of one byte, others interleaved. -/
def interleaved : List Instr := [.nop, .fpStart, .csAdd 0x01, .fpByte 0x34, .statusReq, .fpEnd, .reserved7]

theorem test_witness_ParserRefinesDecodeStatus :
    interleaved.filter drivesParser = .fpStart :: (([0x34] : List Byte).map .fpByte ++ [.fpEnd])
    ∧ (∀ i ∈ interleaved, i.wellFormed = true)
    ∧ ∀ raw : List Byte, (decodeOps raw).filter drivesParser = .fpStart :: (raw.map .fpByte ++ [.fpEnd]) := by
  refine ⟨by decide, by decide, fun raw => ?_⟩
  refine List.filter_eq_self.mpr fun i hi => ?_
  simp only [decodeOps, List.mem_cons, List.mem_append, List.mem_map, List.not_mem_nil, or_false] at hi
  rcases hi with rfl | ⟨_, _, rfl⟩ | rfl <;> rfl

theorem test_witness_OverlongInputIsCutAtTwentyBytes :
    20 ≤ v2.toList.length ∧ 20 ≤ (v2.toList ++ [0xDE]).length := by decide

theorem test_witness_FirstFailingTestDecidesTheResult :
    ([] : List Byte).length < 20 ∧ (v2.toList.take 19).length < 20
    ∧ v2Count[2] ≠ 16 ∧ (v2Sum[2] = 16 ∧ csum8 (frameBytes v2Sum 2 18) ≠ v2Sum[19])
    ∧ v2[2] = 16 ∧ csum8 (frameBytes v2 2 18) = v2[19] := by decide

theorem test_witness_NoPartialUpdateOfTheLatch :
    (∀ p ∈ ([(.fpEnd, receiving v2, 2), (.fpByte 0xE7, receiving v2Count, 3), (.fpByte 0xE6, receiving v2, 4)]
        : List (Instr × Block × BitVec 3)), (after p.1 p.2.1).map (·.1.res) = some p.2.2)
    ∧ (after (.fpByte 0xE7) { receiving v2 with lat := v2Sum }).map (·.1.lat) = some v2 ∧ v2 ≠ v2Sum := by decide

theorem test_witness_EverySingleByteErrorIsDetected :
    decodeStatus v2.toList = .accepted v2
    ∧ (2 ≤ (2 : Fin 20).val ∧ (15 : Byte) ≠ v2[(2 : Fin 20)]) ∧ (2 ≤ (3 : Fin 20).val ∧ (0 : Byte) ≠ v2[(3 : Fin 20)])
    ∧ (2 ≤ (18 : Fin 20).val ∧ (1 : Byte) ≠ v2[(18 : Fin 20)])
    ∧ 2 ≤ (19 : Fin 20).val ∧ (0xE6 : Byte) ≠ v2[(19 : Fin 20)] := by
  refine ⟨by decide, ⟨by decide, by decide⟩, ⟨by decide, by decide⟩, ⟨by decide, by decide⟩, by decide, by decide⟩

theorem test_witness_SystemIdChangesAndSwapsAreAccepted :
    (∀ i : Fin 20, 2 ≤ i.val → ((v2.set 0 0xFF).set 1 0xFF)[i] = v2[i]) ∧ decodeStatus v2.toList = .accepted v2
    ∧ (∀ i ∈ ([3, 16, 18] : List (Fin 20)), 3 ≤ i.val ∧ i.val ≤ 18) := by decide

theorem test_witness_ErrorEntryRecordsAndIdles :
    ∀ p ∈ ([(.fpEnd, receiving v2), (.fpByte 0xE7, receiving v2Count), (.fpByte 0xE6, receiving v2)]
        : List (Instr × Block)),
      (after p.1 p.2).map (fun r => (r.2.done, r.1.res != 1)) = some (true, true) := by decide

theorem test_witness_ErrorRecordIsHeld :
    (∀ b ∈ [failed 2 7 20, failed 3 15 16, failed 4 0xE6 0xE7], b.legal ∧ (b.res = 2 ∨ b.res = 3 ∨ b.res = 4)
      ∧ (after (.fpByte 0x01) b).isSome = true ∧ (after .fpEnd b).isSome = true)
    ∧ Instr.fpEnd ≠ .fpStart ∧ Instr.fpEnd ≠ .reset ∧ Instr.fpByte 0x01 ≠ .fpStart ∧ Instr.fpByte 0x01 ≠ .reset := by
  decide

theorem test_witness_DoneStrobesExactlyWhenADecodeFinishes :
    (∃ t, exec (.fpByte 0xE7) (around (receiving v2)) = .next t ∧ t.out.done = true)
    ∧ ∃ t, exec (.fpByte 0xE7) (around idle) = .next t ∧ t.out.done = false :=
  ⟨⟨_, rfl, rfl⟩, _, rfl, rfl⟩

theorem test_witness_CommandOutputDependsOnTheRequestAlone :
    (∃ t, exec .volUp (around idle) = .next t ∧ t.out.cmdValid = true)
    ∧ (∃ t, exec .volUp (around (receiving v2)) = .next t ∧ t.out.cmdValid = true)
    ∧ ∃ t, exec .reset (around idle) = .next t ∧ t.out.cmdValid = false :=
  ⟨⟨_, rfl, rfl⟩, ⟨_, rfl, rfl⟩, _, rfl, rfl⟩

theorem test_witness_TraceShowsAcceptedBytes :
    ∃ t, exec (.fpByte 0xE7) { around (receiving v2) with traceFitted := true } = .next t ∧ t.out.trace = some 0xE7 :=
  ⟨_, rfl, rfl⟩

theorem test_witness_InvalidLatchHasNoViews : idle.latValid = true ∧ (receiving v2).latValid = false := ⟨rfl, rfl⟩

theorem test_witness_InputViewsDecodeTheSelector :
    (v2[14], viewInput v2) = (4, .member .cd) ∧ isSource (v2.set 14 0x01)[14] = false
    ∧ isSource (v2.set 14 0x09)[14] = false := by decide

theorem test_witness_DecibelViewsEndAtNinety :
    (v2.set 16 90)[16].toNat ≤ 90 ∧ (v2.set 16 0)[16].toNat ≤ 90 ∧ 90 < (v2.set 16 91)[16].toNat := by decide

theorem test_witness_DecodeAndEncodeAgree :
    Instr.selCd.wellFormed = true ∧ Instr.selCd.firstOfItsWord = true ∧ decode (encode .selCd) = .ok .selCd
    ∧ (Instr.cmdFrame 0xFF 0xF3).wellFormed = true ∧ (Instr.cmdFrame 0xFF 0xF3).firstOfItsWord = true
    ∧ Instr.z2SelFm.wellFormed = true ∧ decode (encode .z2SelFm) = .ok .z2VolUp := by decide

theorem test_witness_PortSamplesAreDispatched :
    (0x80735347 : BitVec 32).extractLsb' 16 16 ≠ 0x8173#16
    ∧ ((0x8173FFF3 : BitVec 32).extractLsb' 16 16 = 0x8173#16 ∧ frameWellFormed 0x8173FFF3 = true)
    ∧ ((0x8173FFF4 : BitVec 32).extractLsb' 16 16 = 0x8173#16 ∧ frameWellFormed 0x8173FFF4 = false) := by decide

theorem test_witness_StepRunsTheDecodedOperation :
    ((State.reset.withRequest (.op 0x253)).port = .op 0x253 :: State.reset.port ∧ decode (.op 0x253) = .ok (.csAdd 0x53))
    ∧ ((State.reset.withRequest (.frame 0)).port = .frame 0 :: State.reset.port
      ∧ decode (.frame 0) = .error .notACommandFrame)
    ∧ State.reset.port = [] ∧ State.reset.session.running = none ∧ State.reset.session.calls = [] := by decide

theorem test_witness_EachOperationWritesOnlyItsSet :
    (∃ t, exec (.fpByte 0xE7) (around (receiving v2)) = .next t)
    ∧ (around idle).block.busy = false ∧ ∃ t, exec (.fpByte 0xE7) (around idle) = .next t :=
  ⟨⟨_, rfl⟩, rfl, _, rfl⟩

theorem test_witness_NopStepsMayBeInserted :
    (∃ u, exec .nop (around idle) = .next u) ∧ [Instr.fpStart] ≠ [] := ⟨⟨_, rfl⟩, by decide⟩

/-- The host about to do the actions given. -/
def hosting (b : Block) (c : Call) (acts : List HostAct) : State :=
  { around b with
    session := { State.reset.session with running := some { call := c, acts := acts } }
    link := { rx := [], arrivals := [v2.toList], tx := [] } }

/-- The host about to begin an operation. -/
def asked (c : Call) (arrival : List Byte) : State :=
  { around idle with
    session := { State.reset.session with calls := [c] }
    link := { rx := [], arrivals := [arrival], tx := [] } }

theorem test_witness_EachStepPerformsOneOperation :
    (∃ t, step (hosting idle .getVolume [.give .volume]) = .next t) ∧ ∃ t, step (asked .refresh []) = .next t :=
  ⟨⟨_, rfl⟩, _, rfl⟩

theorem test_witness_EveryStepKeepsTheBlockLegal :
    (around (receiving v2)).block.legal
    ∧ (∃ t, step ((around (receiving v2)).withRequest (.op 0x5E7)) = .next t)
    ∧ ∃ u, exec .reset (around (receiving v2)) = .next u ∧ runSteps 0 u = .next u :=
  ⟨by decide, ⟨_, rfl⟩, _, rfl, rfl⟩

theorem test_witness_StaleBytesReachNoResult :
    (around { receiving v2 with lat := v2Sum, cnt := 1 }).alike (around { receiving v2 with buf := v2Sum.set 19 0x00, cnt := 1 })
    ∧ (around { receiving v2 with lat := v2Sum }) ≠ around (receiving v2) := by
  refine ⟨⟨by decide, rfl, rfl, rfl, rfl, rfl⟩, ?_⟩
  intro h
  have : v2Sum = v2 := congrArg (fun s => s.block.lat) h
  revert this
  decide

theorem test_witness_HostNeverStops :
    ∀ s ∈ [hosting idle .getVolume [.give .volume], hosting (receiving v2) .refresh [.issue .fpEnd, .check],
        hosting (failed 2 7 20) .refresh [.check], asked .refresh []],
      s.block.legal ∧ s.hostReady := by
  intro s hs
  simp only [List.mem_cons, List.not_mem_nil, or_false] at hs
  rcases hs with rfl | rfl | rfl | rfl <;> refine ⟨by decide, rfl, ?_⟩ <;> intro r hr <;> cases hr <;> rfl

/-- One reply for each of the four outcomes, and one of 21 bytes. -/
theorem test_witness_RefreshDecodesTheReply :
    (∀ raw ∈ [v2.toList, v2.toList ++ [0xDE], v2Count.toList, v2Sum.toList, v2.toList.take 19, []],
      let s := asked .getVolume raw
      s.port = [] ∧ s.session.running = none ∧ s.session.calls = [.getVolume] ∧ s.session.retryOn = []
      ∧ expandCall s.session.doubleRefresh .getVolume = refreshActs ++ [.give .volume])
    ∧ decodeStatus v2.toList = .accepted v2 ∧ decodeStatus v2Count.toList = .unexpectedCount 15 16
    ∧ decodeStatus v2Sum.toList = .checksumMismatch 0xE6 0xE7
    ∧ decodeStatus (v2.toList.take 19) = .shortFrame 19 20 := by decide

theorem test_witness_SetPowerSendsTheDirection :
    ∀ on ∈ [true, false], ∀ f ∈ [v2, v2.set 13 0x00],
      let s := hosting { idle with lat := f } (.setPower on) [.drivePower on]
      s.port = [] ∧ s.block.latValid = true
      ∧ s.session.running = some { call := .setPower on, acts := [.drivePower on] } :=
  fun _ _ _ _ => ⟨rfl, rfl, rfl⟩

theorem test_witness_ToggleSettersSendOnlyOnDifference :
    ∀ d ∈ [true, false], ∀ f ∈ [v2.set 13 0xFF, v2.set 13 0x00],
      ∀ p ∈ ([(.setZone2Power d, .zone2Power, 0x3F), (.setMuted d, .mute, 0x11), (.setZone2Muted d, .zone2Mute, 0x43),
          (.setToneDirect d, .toneDirect, 0x15)] : List (Call × FlagName × Byte)),
        let s := hosting { idle with lat := f } p.1 [.toggleUnless d p.2.1 p.2.2]
        s.port = [] ∧ s.block.latValid = true
        ∧ s.session.running = some { call := p.1, acts := [.toggleUnless d p.2.1 p.2.2] } :=
  fun _ _ _ _ _ _ => ⟨rfl, rfl, rfl⟩

theorem test_witness_GettersReturnTheirView :
    ∀ f ∈ [v2, v2.set 14 0x01, v2.set 14 0x09],
      ∀ p ∈ ([(.getPower, .flag .power), (.getZone2Power, .flag .zone2Power), (.getMuted, .flag .mute),
          (.getZone2Muted, .flag .zone2Mute), (.getToneDirect, .flag .toneDirect), (.getVolume, .volume),
          (.getZone2Volume, .zone2Volume), (.getText, .text), (.getInput, .input), (.getZone2Input, .zone2Input)]
            : List (Call × Query)),
        let s := hosting { idle with lat := f } p.1 [.give p.2]
        s.port = [] ∧ s.block.latValid = true ∧ s.block.lat = f ∧ s.session.retryOn = []
        ∧ s.session.running = some { call := p.1, acts := [.give p.2] } :=
  fun _ _ _ _ => ⟨rfl, rfl, rfl, rfl, rfl⟩

theorem test_witness_SelectionsValidateThenSend :
    (∀ src ∈ ([0, 8, 1, 9] : List Byte), ∀ c ∈ [Call.setInput src, .setZone2Input src],
      (asked c []).port = [] ∧ (asked c []).session.running = none ∧ (asked c []).session.calls = [c]
      ∧ (asked c []).session.retryOn = [])
    ∧ (0 : Byte) ∈ ([0, 2, 3, 4, 5, 6, 7, 8] : List Byte) ∧ (8 : Byte) ∈ ([0, 2, 3, 4, 5, 6, 7, 8] : List Byte)
    ∧ (1 : Byte) ∉ ([0, 2, 3, 4, 5, 6, 7, 8] : List Byte) ∧ (9 : Byte) ∉ ([0, 2, 3, 4, 5, 6, 7, 8] : List Byte) := by
  decide

theorem test_witness_VolumeOperationsSendTheirPulses :
    ∀ c ∈ [Call.volumeUp 0, .volumeUp 3, .volumeDown 3, .zone2VolumeUp, .zone2VolumeDown],
      (asked c []).port = [] ∧ (asked c []).session.running = none ∧ (asked c []).session.calls = [c] := by decide

end Sys2Proof.Tests
end

section
/-! PROOFS. What one operation of the block does (10_state R41, R42): a relation with one rule for each row of the
opcode table, and for each of its two cases where a row has two, and its agreement with `exec`. -/

namespace Sys2Proof.Machine

/-- The outputs of a step that presents the command frame of an opcode (10_state R33). -/
def Output.command (o : Byte) : Output := { cmdOut := some (commandFrame o), done := false, trace := none }

/-- The outputs of a step in which a decode may finish: no command frame (10_state R34, 60 R280). -/
def Output.decoding (done : Bool) (trace : Option Byte) : Output := { cmdOut := none, done := done, trace := trace }

@[simp] theorem Output.command_done (o : Byte) : (Output.command o).done = false := rfl
@[simp] theorem Output.decoding_done (d : Bool) (x : Option Byte) : (Output.decoding d x).done = d := rfl

/-- The element part of `RESET` (10_state R38). -/
def clearBlock (b : Block) : Block :=
  { b with
    acc := 0, cnt := 0, busy := false, res := Config.resNone, errActual := 0, errExpected := 0, latValid := false }

/-- The element part of `FP_END` while receiving (42 R169). -/
def recordShortFrame (b : Block) : Block :=
  raiseError Config.resShortFrame (b.cnt.setWidth 8) (low8 Config.frameLen) b

@[simp] theorem recordShortFrame_res (b : Block) : (recordShortFrame b).res = Config.resShortFrame := rfl

/-- `Performs s i t`: from `s` the operation `i` ends in `t`. -/
inductive Performs (s : State) : Instr → State → Prop
  | wireCommand {i : Instr} {o : Byte} (named : wireOpcode i = some o) :
      Performs s i (s.after s.block (.command o))
  | cmdFrame (o : Byte) : Performs s (.cmdFrame o (commandChecksum o)) (s.after s.block (.command o))
  | cmdEnc (o : Byte) : Performs s (.cmdEnc o) (s.after s.block (.command o))
  | nop : Performs s .nop (s.after s.block .quiet)
  | reserved7 : Performs s .reserved7 (s.after s.block .quiet)
  | csClr : Performs s .csClr (s.after { s.block with acc := 0 } .quiet)
  | csAdd (b : Byte) :
      Performs s (.csAdd b) (s.after { s.block with acc := low8 (s.block.acc.toNat + b.toNat) } .quiet)
  | fpStart : Performs s .fpStart (s.after (startFrame s.block) .quiet)
  | byteAccepted (b : Byte) (receiving : s.block.busy = true) :
      Performs s (.fpByte b)
        (s.after (acceptByte b s.block) (.decoding (completesFrame s.block) (traceOf s b)))
  | byteDropped (b : Byte) (idle : s.block.busy = false) : Performs s (.fpByte b) (s.after s.block .quiet)
  | endShort (receiving : s.block.busy = true) :
      Performs s .fpEnd (s.after (recordShortFrame s.block) (.decoding true none))
  | endIgnored (idle : s.block.busy = false) : Performs s .fpEnd (s.after s.block .quiet)
  | reset : Performs s .reset (s.after (clearBlock s.block) .quiet)

/-- A wire command presents the frame of its opcode and changes no element (41 R121 to R147). -/
theorem exec_of_wireOpcode {i : Instr} {o : Byte} (named : wireOpcode i = some o) (s : State) :
    exec i s = .next (s.after s.block (.command o)) := by
  cases i <;> simp only [wireOpcode, reduceCtorEq, Option.some.injEq] at named <;> subst named <;> rfl

/-- A general command frame whose last byte is not its opcode's checksum is refused (30 R85 item 9). -/
theorem exec_cmdFrame_of_ne {o c : Byte} (bad : c ≠ commandChecksum o) (s : State) :
    exec (.cmdFrame o c) s = .refused .badCommandChecksum := by
  simp [exec, execCmdFrame, bad]

theorem exec_of_performs {i : Instr} {s t : State} (h : Performs s i t) : exec i s = .next t := by
  cases h with
  | wireCommand named => exact exec_of_wireOpcode named s
  | cmdFrame o => simp only [exec, execCmdFrame, if_true]; rfl
  | byteAccepted b receiving => simp only [exec, execFpByte, receiving, if_true]; rfl
  | byteDropped b idle => simp only [exec, execFpByte, idle, Bool.false_eq_true, if_false]; rfl
  | endShort receiving => simp only [exec, execFpEnd, receiving, if_true]; rfl
  | endIgnored idle => simp only [exec, execFpEnd, idle, Bool.false_eq_true, if_false]; rfl
  | _ => rfl

/-- From every state an operation is performed, or it is the refused frame. -/
theorem performs_or_badChecksum (i : Instr) (s : State) :
    (∃ t, Performs s i t) ∨ (∃ o c, i = .cmdFrame o c ∧ c ≠ commandChecksum o) := by
  cases i with
  | cmdFrame o c =>
    by_cases hc : c = commandChecksum o
    · subst hc
      exact .inl ⟨_, .cmdFrame o⟩
    · exact .inr ⟨o, c, rfl, hc⟩
  | cmdEnc o => exact .inl ⟨_, .cmdEnc o⟩
  | nop => exact .inl ⟨_, .nop⟩
  | reserved7 => exact .inl ⟨_, .reserved7⟩
  | csClr => exact .inl ⟨_, .csClr⟩
  | csAdd b => exact .inl ⟨_, .csAdd b⟩
  | fpStart => exact .inl ⟨_, .fpStart⟩
  | reset => exact .inl ⟨_, .reset⟩
  | fpByte b =>
    cases hbusy : s.block.busy with
    | true => exact .inl ⟨_, .byteAccepted b hbusy⟩
    | false => exact .inl ⟨_, .byteDropped b hbusy⟩
  | fpEnd =>
    cases hbusy : s.block.busy with
    | true => exact .inl ⟨_, .endShort hbusy⟩
    | false => exact .inl ⟨_, .endIgnored hbusy⟩
  | _ => exact .inl ⟨_, .wireCommand rfl⟩

/-- The relation is `exec`: what the proofs below say of `Performs` they say of the model. -/
theorem exec_eq_next_iff {i : Instr} {s t : State} : exec i s = .next t ↔ Performs s i t := by
  refine ⟨fun h => ?_, exec_of_performs⟩
  rcases performs_or_badChecksum i s with ⟨u, hu⟩ | ⟨o, c, rfl, bad⟩
  · rw [exec_of_performs hu] at h
    cases h
    exact hu
  · rw [exec_cmdFrame_of_ne bad] at h
    cases h

/-- `NOP` presents nothing and changes no element (40 R103). -/
theorem exec_nop (s : State) : exec .nop s = .next (s.after s.block .quiet) := rfl

/-- An operation reads nothing of the machine but the block and whether the trace is fitted. -/
theorem Performs.of_same_block {i : Instr} {s v u : State} (h : Performs v i u) (hblock : v.block = s.block)
    (htrace : v.traceFitted = s.traceFitted) : Performs s i (s.after u.block u.out) := by
  cases h with
  | wireCommand named => simpa [hblock] using Performs.wireCommand (s := s) named
  | cmdFrame o => simpa [hblock] using Performs.cmdFrame (s := s) o
  | cmdEnc o => simpa [hblock] using Performs.cmdEnc (s := s) o
  | nop => simpa [hblock] using Performs.nop (s := s)
  | reserved7 => simpa [hblock] using Performs.reserved7 (s := s)
  | csClr => simpa [hblock] using Performs.csClr (s := s)
  | csAdd b => simpa [hblock] using Performs.csAdd (s := s) b
  | fpStart => simpa [hblock] using Performs.fpStart (s := s)
  | byteAccepted b receiving =>
    simpa [hblock, traceOf, htrace] using Performs.byteAccepted (s := s) b (hblock ▸ receiving)
  | byteDropped b idle => simpa [hblock] using Performs.byteDropped (s := s) b (hblock ▸ idle)
  | endShort receiving => simpa [hblock] using Performs.endShort (s := s) (hblock ▸ receiving)
  | endIgnored idle => simpa [hblock] using Performs.endIgnored (s := s) (hblock ▸ idle)
  | reset => simpa [hblock] using Performs.reset (s := s)

end Sys2Proof.Machine
end

section
/-! PROOFS. What a step of the machine does to the block: exactly one operation, whoever presents it (10_state R42,
44 R220). -/

namespace Sys2Proof.Machine

/-- In the step from `s` to `t` the block performs one operation, on its elements in `s`. -/
def BlockPerforms (s t : State) : Prop := ∃ i v, Performs s i v ∧ t.block = v.block ∧ t.out = v.out

/-- An operation presented after changes outside the block is one operation of the block. -/
theorem blockPerforms_of_exec {i : Instr} {s v t : State} (h : exec i v = .next t) (hblock : v.block = s.block)
    (htrace : v.traceFitted = s.traceFitted) : BlockPerforms s t :=
  ⟨i, _, (exec_eq_next_iff.mp h).of_same_block hblock htrace, rfl, rfl⟩

theorem sendStep_blockPerforms {o : Byte} {s v t : State} (h : sendStep o v = .next t)
    (hblock : v.block = s.block) : BlockPerforms s t := by
  rw [sendStep_eq] at h
  cases h
  exact ⟨_, _, .cmdEnc o, hblock, rfl⟩

theorem viewStep_blockPerforms {s t : State} {act : Frame → State} (h : viewStep s act = .next t)
    (hblock : ∀ f, (act f).block = s.block) (htrace : ∀ f, (act f).traceFitted = s.traceFitted) : BlockPerforms s t := by
  rcases viewStep_cases s act with ⟨_, e⟩ | ⟨_, e⟩ <;> rw [e] at h
  · exact blockPerforms_of_exec h (hblock _) (htrace _)
  · cases h

/-- The host after a read: the bytes it took, each to be presented with `FP_BYTE`, then `FP_END` (44 R225). -/
def State.withReply (s : State) (c : Call) (rest : List HostAct) : State :=
  { s.proceed c ((s.link.read 20).1.map (fun b => .issue (.fpByte b)) ++ .issue .fpEnd :: rest) with
    link := (s.link.read 20).2 }

theorem hostAct_read (c : Call) (rest : List HostAct) (s : State) :
    hostAct c .read rest s = exec .nop (s.withReply c rest) := rfl

theorem hostAct_blockPerforms {c : Call} {a : HostAct} {rest : List HostAct} {s t : State}
    (h : hostAct c a rest s = .next t) : BlockPerforms s t := by
  cases a with
  | issue i => exact blockPerforms_of_exec h rfl rfl
  | send o => exact sendStep_blockPerforms h rfl
  | read =>
    rw [hostAct_read] at h
    exact blockPerforms_of_exec h rfl rfl
  | check =>
    simp only [hostAct] at h
    split at h
    · exact blockPerforms_of_exec h rfl rfl
    · exact blockPerforms_of_exec h (by simp) (by simp)
    · cases h
  | give q =>
    refine viewStep_blockPerforms h (fun f => ?_) (fun f => ?_) <;> cases answerQuery q f <;> simp
  | drivePower on => exact viewStep_blockPerforms h (fun _ => rfl) (fun _ => rfl)
  | toggleUnless d k o => exact viewStep_blockPerforms h (fun _ => rfl) (fun _ => rfl)
  | select src base =>
    simp only [hostAct] at h
    split at h
    · exact blockPerforms_of_exec h rfl rfl
    · exact blockPerforms_of_exec h (by simp) (by simp)

theorem hostStep_blockPerforms {s t : State} (h : hostStep s = .next t) : BlockPerforms s t := by
  unfold hostStep at h
  split at h
  · exact hostAct_blockPerforms h
  · exact blockPerforms_of_exec h rfl rfl
  · split at h <;> exact blockPerforms_of_exec h rfl rfl

/-- A request that decodes is performed at the state without it (10_state R42, 20 R63). -/
theorem step_of_decode_ok {s : State} {r : Request} {rest : List Request} {i : Instr} (hport : s.port = r :: rest)
    (hdec : decode r = .ok i) : step s = exec i { s with port := rest } := by
  simp [step, portStep, hport, runRequest, hdec]

/-- A request that decodes to nothing is refused (log entry 2). -/
theorem step_of_decode_error {s : State} {r : Request} {rest : List Request} {e : DecodeError}
    (hport : s.port = r :: rest) (hdec : decode r = .error e) : step s = .refused .notACommandFrame := by
  cases e
  simp [step, portStep, hport, runRequest, hdec]

/-- With no request waiting the step is the host's (44 R220). -/
theorem step_of_port_nil {s : State} (hport : s.port = []) : step s = hostStep s := by
  simp [step, portStep, hport]

/-- Every step performs exactly one operation of the block (20 R60, 44 R220). -/
theorem step_blockPerforms {s t : State} (h : step s = .next t) : BlockPerforms s t := by
  cases hport : s.port with
  | nil =>
    rw [step_of_port_nil hport] at h
    exact hostStep_blockPerforms h
  | cons r rest =>
    cases hdec : decode r with
    | ok i =>
      rw [step_of_decode_ok hport hdec] at h
      exact blockPerforms_of_exec h rfl rfl
    | error e =>
      rw [step_of_decode_error hport hdec] at h
      cases h

/-- What every step keeps holds after any number of steps. -/
theorem runSteps_keeps {P : State → Prop} (keep : ∀ s t, P s → step s = .next t → P t) {k : Nat} {s t : State}
    (hs : P s) (h : runSteps k s = .next t) : P t := by
  induction k generalizing s with
  | zero =>
    cases h
    exact hs
  | succ k ih =>
    unfold runSteps at h
    split at h
    next u hu => exact ih (keep s u hs hu) h
    all_goals cases h

end Sys2Proof.Machine
end

section
/-! PROOFS. The nine facts of a legal state (10_state R40), operation by operation. -/

namespace Sys2Proof.Machine

/-- `RESET` makes every block legal: no phase, no result and no latch is left for a fact to speak of. -/
theorem clearBlock_legal (b : Block) : (clearBlock b).legal := by
  simp [Block.legal, clearBlock, Config.resNone]

/-- `FP_START` keeps the latch, clears the result and counts from 0. -/
theorem startFrame_legal {b : Block} (hb : b.legal) : (startFrame b).legal := by
  obtain ⟨_, hlat, _⟩ := hb
  simpa [Block.legal, Config.resNone] using hlat

/-- `FP_END` records a count below 20 and the expected 20. -/
theorem recordShortFrame_legal {b : Block} (hb : b.legal) (receiving : b.busy = true) : (recordShortFrame b).legal := by
  obtain ⟨hcnt, hlat, _⟩ := hb
  have hactual : b.cnt.toNat % 256 ≤ 19 := (Nat.mod_le _ _).trans (hcnt receiving)
  simpa [Block.legal, recordShortFrame, Config.resShortFrame, Config.frameLen, low8] using ⟨hlat, hactual⟩

/-- The 20th byte: each error records two values that differ, and the latch takes over a frame only when it has passed
both tests. -/
theorem completeFrame_legal {b : Block} (hb : b.legal) (receiving : b.busy = true) : (completeFrame b).legal := by
  obtain ⟨_, hlat, _, hnone, _, _, _, hbusy, _⟩ := hb
  have herr := hnone (hbusy receiving)
  rcases completeFrame_cases b with ⟨hcount, e⟩ | ⟨_, hsum, e⟩ | ⟨hcount, hsum, e⟩ <;> rw [e]
  · simpa [Block.legal, raiseError, Config.resUnexpectedCount, Config.countExpected] using ⟨hlat, hcount⟩
  · simpa [Block.legal, raiseError, Config.resChecksumMismatch] using ⟨hlat, Ne.symm hsum⟩
  · simpa [Block.legal, Config.resOk] using ⟨⟨hcount, hsum⟩, herr⟩

/-- The shift is seen by none of the nine facts. -/
theorem legal_of_shift {b : Block} (hb : b.legal) (f : Frame) : { b with buf := f }.legal := hb

/-- An accepted byte: below 19 the count goes up by one, at 19 the frame completes, and a legal count is not above. -/
theorem acceptByte_legal {b : Block} (byte : Byte) (hb : b.legal) (receiving : b.busy = true) :
    (acceptByte byte b).legal := by
  rcases acceptByte_cases byte b with ⟨hcnt, e⟩ | ⟨_, e⟩ | ⟨hcnt, e⟩ <;> rw [e]
  · have hup : (b.cnt + 1).toNat ≤ 19 := by simp; omega
    obtain ⟨_, hrest⟩ := hb
    exact ⟨fun _ => hup, hrest⟩
  · exact completeFrame_legal (legal_of_shift hb _) receiving
  · have := hb.1 receiving
    omega

/-- 10_state R40 for one operation. -/
theorem Performs.legal {i : Instr} {s t : State} (h : Performs s i t) (hs : s.block.legal) : t.block.legal := by
  cases h with
  | fpStart => exact startFrame_legal hs
  | byteAccepted b receiving => exact acceptByte_legal b hs receiving
  | endShort receiving => exact recordShortFrame_legal hs receiving
  | reset => exact clearBlock_legal s.block
  | _ => exact hs

/-- 10_state R40 for one step. -/
theorem step_legal {s t : State} (hs : s.block.legal) (h : step s = .next t) : t.block.legal := by
  obtain ⟨i, v, hv, hblock, _⟩ := step_blockPerforms h
  rw [hblock]
  exact hv.legal hs

/-- Settles O52: each operation keeps the nine facts, a step performs one operation, and `RESET` establishes them. -/
theorem everyStepKeepsTheBlockLegal : Obligations.EveryStepKeepsTheBlockLegal := by
  refine ⟨fun s t => step_legal, fun k s u t hreset hrun => ?_⟩
  have hu : u.block.legal := by
    cases hreset
    exact clearBlock_legal s.block
  exact runSteps_keeps (P := fun v => v.block.legal) (fun _ _ => step_legal) hu hrun

end Sys2Proof.Machine
end

section
/-! PROOFS. Left-over bytes reach no result (10_state R36, R38; 93 U1, U2): blocks that are alike stay alike under every
operation, and the host, which sees them equal, does the same with both. -/

namespace Sys2Proof.Machine

/-- Two outcomes the host cannot tell apart: alike next states, or the same stop. -/
inductive OutcomesAlike : Host.Outcome State Fault Refusal → Host.Outcome State Fault Refusal → Prop
  | next {s t : State} (h : s.alike t) : OutcomesAlike (.next s) (.next t)
  | fault (r : Fault) : OutcomesAlike (.fault r) (.fault r)
  | refused (r : Refusal) : OutcomesAlike (.refused r) (.refused r)

theorem OutcomesAlike.next_or_stop {x y : Host.Outcome State Fault Refusal} (h : OutcomesAlike x y) :
    (∀ s, x = .next s → ∃ t, y = .next t ∧ s.alike t)
    ∧ (∀ r, x = .fault r → y = .fault r) ∧ ∀ r, x = .refused r → y = .refused r := by
  cases h with
  | next h =>
    refine ⟨fun s hs => ?_, by simp, by simp⟩
    cases hs
    exact ⟨_, rfl, h⟩
  | fault r => exact ⟨by simp, fun _ hr => hr, by simp⟩
  | refused r => exact ⟨by simp, by simp, fun _ hr => hr⟩

/-- Alike states are one state around two alike blocks. -/
theorem State.alike_iff {s t : State} : s.alike t ↔ ∃ b, s.block.alike b ∧ t = { s with block := b } := by
  constructor
  · rintro ⟨hblock, hout, htrace, hport, hsession, hlink⟩
    refine ⟨t.block, hblock, ?_⟩
    rw [hout, htrace, hport, hsession, hlink]
  · rintro ⟨b, hb, rfl⟩
    exact ⟨hb, rfl, rfl, rfl, rfl, rfl⟩

/-- What the host can read of alike blocks is equal (10_state R35). -/
theorem Block.alike.readable_eq {a b : Block} (h : a.alike b) : a.readable = b.readable := by
  obtain ⟨hacc, hbusy, hres, hact, hexp, hvalid, hlat, _⟩ := h
  have hlatched : a.latched = b.latched := by
    unfold Block.latched
    rw [← hvalid]
    split
    next valid => rw [hlat valid]
    next => rfl
  simp [Block.readable, hacc, hbusy, hres, hact, hexp, hlatched]

theorem Block.alike.latched_eq {a b : Block} (h : a.alike b) : a.latched = b.latched :=
  congrArg Readable.latched h.readable_eq

theorem Block.alike.refreshOutcome_eq {a b : Block} (h : a.alike b) : refreshOutcome a = refreshOutcome b := by
  obtain ⟨_, _, hres, hact, hexp, _⟩ := h
  simp [refreshOutcome, hres, hact, hexp]

/-- `FP_START` begins with no byte shifted in, so none of `buf` has to agree. -/
theorem startFrame_alike {a b : Block} (h : a.alike b) : (startFrame a).alike (startFrame b) := by
  obtain ⟨hacc, _, _, _, _, hvalid, hlat, _⟩ := h
  refine ⟨hacc, rfl, rfl, rfl, rfl, hvalid, hlat, fun _ => ⟨rfl, fun i hi => ?_⟩⟩
  have := i.isLt
  simp at hi
  omega

theorem clearBlock_alike {a b : Block} (h : a.alike b) : (clearBlock a).alike (clearBlock b) := by
  obtain ⟨hacc, _⟩ := h
  simp [Block.alike, clearBlock]

/-- A short frame records the count, which agrees while receiving. -/
theorem recordShortFrame_alike {a b : Block} (h : a.alike b) (receiving : a.busy = true) :
    (recordShortFrame a).alike (recordShortFrame b) := by
  obtain ⟨hacc, _, _, _, _, hvalid, hlat, hbuf⟩ := h
  obtain ⟨hcnt, _⟩ := hbuf receiving
  simpa [Block.alike, recordShortFrame, hacc, hcnt, hvalid] using hvalid ▸ hlat

/-- Blocks that are alike are so with any bytes in `buf`, the same in both. -/
theorem Block.alike.with_buf {a b : Block} (h : a.alike b) (f : Frame) :
    { a with buf := f }.alike { b with buf := f } := by
  obtain ⟨hacc, hbusy, hres, hact, hexp, hvalid, hlat, hbuf⟩ := h
  exact ⟨hacc, hbusy, hres, hact, hexp, hvalid, hlat, fun receiving => ⟨(hbuf receiving).1, fun _ _ => rfl⟩⟩

/-- Blocks that are alike are so with any `acc`, the same in both. -/
theorem Block.alike.with_acc {a b : Block} (h : a.alike b) (x : Byte) :
    { a with acc := x }.alike { b with acc := x } := by
  obtain ⟨_, hrest⟩ := h
  exact ⟨rfl, hrest⟩

/-- With all twenty bytes equal the frame completes alike, and the latch is the same if it is written. -/
theorem completeFrame_alike {a b : Block} (h : a.alike b) (hbuf : a.buf = b.buf) :
    (completeFrame a).alike (completeFrame b) := by
  obtain ⟨hacc, _, _, hact, hexp, hvalid, hlat, _⟩ := h
  unfold completeFrame
  rw [hbuf]
  split
  · simpa [Block.alike, raiseError, hacc, hvalid] using hvalid ▸ hlat
  · split
    · simpa [Block.alike, raiseError, hacc, hvalid] using hvalid ▸ hlat
    · simp [Block.alike, hacc, hact, hexp, hbuf]

/-- The bytes shifted in agree after the shift, the new one among them. -/
theorem shiftFrame_getElem_eq {f g : Frame} {n : Nat} (h : ∀ i : Fin 20, 20 - n ≤ i.val → f[i] = g[i]) (byte : Byte)
    (i : Fin 20) (hi : 19 - n ≤ i.val) : (shiftFrame f byte)[i] = (shiftFrame g byte)[i] := by
  obtain ⟨i, hlt⟩ := i
  by_cases hlast : i = 19
  · subst hlast
    exact (shiftFrame_getElem_last f byte).trans (shiftFrame_getElem_last g byte).symm
  · have hi' : i < 19 := by omega
    have hnext := h ⟨i + 1, by omega⟩ (by simp at hi ⊢; omega)
    simpa [shiftFrame_getElem_of_lt _ _ _ hi'] using hnext

/-- Once nineteen bytes have been shifted in, the shift leaves nothing of the old contents. -/
theorem shiftFrame_eq {f g : Frame} {n : Nat} (hn : 19 ≤ n) (h : ∀ i : Fin 20, 20 - n ≤ i.val → f[i] = g[i])
    (byte : Byte) : shiftFrame f byte = shiftFrame g byte :=
  Vector.ext fun i hi => shiftFrame_getElem_eq h byte ⟨i, hi⟩ (by omega)

/-- An accepted byte: below 19 one more byte agrees; from 19 on the whole register does. -/
theorem acceptByte_alike {a b : Block} (byte : Byte) (h : a.alike b) (receiving : a.busy = true) :
    (acceptByte byte a).alike (acceptByte byte b) := by
  obtain ⟨hacc, hbusy, hres, hact, hexp, hvalid, hlat, hshifted⟩ := id h
  obtain ⟨hcnt, hbuf⟩ := hshifted receiving
  have hcount : b.cnt.toNat = a.cnt.toNat := by rw [hcnt]
  unfold acceptByte
  rw [hcount]
  split
  next hlow =>
    refine ⟨hacc, hbusy, hres, hact, hexp, hvalid, hlat, fun _ => ⟨by rw [hcnt], fun i hi => ?_⟩⟩
    have hup : (a.cnt + 1).toNat = a.cnt.toNat + 1 := by simp; omega
    exact shiftFrame_getElem_eq hbuf byte i (by simp only [hup] at hi; omega)
  next hhigh =>
    rw [shiftFrame_eq (by omega) hbuf byte]
    split
    · exact completeFrame_alike (h.with_buf _) rfl
    · exact h.with_buf _

/-- A change of one element that all alike blocks make alike, and the same outputs, end alike. -/
theorem State.after_alike {s : State} {b c d : Block} (h : c.alike d) (o : Output) :
    (s.after c o).alike (({ s with block := b } : State).after d o) :=
  ⟨h, rfl, rfl, rfl, rfl, rfl⟩

/-- One operation on alike blocks: the same operation, with the same outputs, ends alike. -/
theorem Performs.alike {i : Instr} {s s' : State} {b : Block} (h : Performs s i s') (hb : s.block.alike b) :
    ∃ t', Performs { s with block := b } i t' ∧ s'.alike t' := by
  obtain ⟨hacc, hbusy, _, _, _, _, _, hbuf⟩ := id hb
  cases h with
  | wireCommand named => exact ⟨_, .wireCommand named, State.after_alike hb _⟩
  | cmdFrame o => exact ⟨_, .cmdFrame o, State.after_alike hb _⟩
  | cmdEnc o => exact ⟨_, .cmdEnc o, State.after_alike hb _⟩
  | nop => exact ⟨_, .nop, State.after_alike hb _⟩
  | reserved7 => exact ⟨_, .reserved7, State.after_alike hb _⟩
  | csClr => exact ⟨_, .csClr, State.after_alike (hb.with_acc 0) _⟩
  | csAdd x =>
    rw [hacc]
    exact ⟨_, .csAdd x, State.after_alike (hb.with_acc _) _⟩
  | fpStart => exact ⟨_, .fpStart, State.after_alike (startFrame_alike hb) _⟩
  | byteAccepted x receiving =>
    have hdone : completesFrame s.block = completesFrame b := by
      simp [completesFrame, hbusy, (hbuf receiving).1]
    rw [hdone]
    exact ⟨_, .byteAccepted x (hbusy ▸ receiving), State.after_alike (acceptByte_alike x hb receiving) _⟩
  | byteDropped x idle => exact ⟨_, .byteDropped x (hbusy ▸ idle), State.after_alike hb _⟩
  | endShort receiving =>
    exact ⟨_, .endShort (hbusy ▸ receiving), State.after_alike (recordShortFrame_alike hb receiving) _⟩
  | endIgnored idle => exact ⟨_, .endIgnored (hbusy ▸ idle), State.after_alike hb _⟩
  | reset => exact ⟨_, .reset, State.after_alike (clearBlock_alike hb) _⟩

/-- Whatever is presented to alike states, the outcomes are alike. -/
theorem exec_alike (i : Instr) {s t : State} (h : s.alike t) : OutcomesAlike (exec i s) (exec i t) := by
  obtain ⟨b, hb, rfl⟩ := State.alike_iff.mp h
  rcases performs_or_badChecksum i s with ⟨s', hs'⟩ | ⟨o, c, rfl, bad⟩
  · obtain ⟨t', ht', halike⟩ := hs'.alike hb
    rw [exec_of_performs hs', exec_of_performs ht']
    exact .next halike
  · rw [exec_cmdFrame_of_ne bad, exec_cmdFrame_of_ne bad]
    exact .refused _

theorem State.alike.proceed {s t : State} (h : s.alike t) (c : Call) (acts : List HostAct) :
    (s.proceed c acts).alike (t.proceed c acts) := by
  obtain ⟨b, hb, rfl⟩ := State.alike_iff.mp h
  exact State.alike_iff.mpr ⟨b, hb, rfl⟩

theorem State.alike.finish {s t : State} (h : s.alike t) (r : HostResult) : (s.finish r).alike (t.finish r) := by
  obtain ⟨b, hb, rfl⟩ := State.alike_iff.mp h
  exact State.alike_iff.mpr ⟨b, hb, rfl⟩

theorem State.alike.withReply {s t : State} (h : s.alike t) (c : Call) (rest : List HostAct) :
    (s.withReply c rest).alike (t.withReply c rest) := by
  obtain ⟨b, hb, rfl⟩ := State.alike_iff.mp h
  exact State.alike_iff.mpr ⟨b, hb, rfl⟩

/-- Whether a host error is retried is not the block's. -/
theorem State.alike.raiseHost {s t : State} (h : s.alike t) (c : Call) (e : HostError) :
    (s.raiseHost c e).alike (t.raiseHost c e) := by
  have hsession : s.session = t.session := h.2.2.2.2.1
  unfold State.raiseHost
  rw [← hsession]
  split
  · exact h.proceed c _
  · exact h.finish _

theorem sendStep_alike (o : Byte) {s t : State} (h : s.alike t) : OutcomesAlike (sendStep o s) (sendStep o t) := by
  obtain ⟨b, hb, rfl⟩ := State.alike_iff.mp h
  rw [sendStep_eq, sendStep_eq]
  exact .next (State.alike_iff.mpr ⟨b, hb, rfl⟩)

/-- A view is read of the same frame, or of none, in both. -/
theorem viewStep_alike {s t : State} {act act' : Frame → State} (h : s.alike t)
    (hact : ∀ f, (act f).alike (act' f)) : OutcomesAlike (viewStep s act) (viewStep t act') := by
  unfold viewStep
  rw [h.1.latched_eq]
  split
  · exact exec_alike .nop (hact _)
  · exact .fault _

theorem hostAct_alike (c : Call) (a : HostAct) (rest : List HostAct) {s t : State} (h : s.alike t) :
    OutcomesAlike (hostAct c a rest s) (hostAct c a rest t) := by
  cases a with
  | issue i => exact exec_alike i (h.proceed c rest)
  | send o => exact sendStep_alike o (h.proceed c rest)
  | read => exact exec_alike .nop (h.withReply c rest)
  | check =>
    simp only [hostAct]
    rw [h.1.refreshOutcome_eq]
    split
    · exact exec_alike .nop (h.proceed c rest)
    · exact exec_alike .nop (h.raiseHost c _)
    · exact .fault _
  | give q =>
    refine viewStep_alike h fun f => ?_
    split
    · exact h.finish _
    · exact h.raiseHost c _
  | drivePower on => exact viewStep_alike h fun f => h.proceed c _
  | toggleUnless d k o => exact viewStep_alike h fun f => h.proceed c _
  | select src base =>
    simp only [hostAct]
    split
    · exact exec_alike .nop (h.proceed c _)
    · exact exec_alike .nop (h.raiseHost c _)

theorem hostStep_alike {s t : State} (h : s.alike t) : OutcomesAlike (hostStep s) (hostStep t) := by
  obtain ⟨b, hb, rfl⟩ := State.alike_iff.mp h
  unfold hostStep
  simp only
  split
  · exact hostAct_alike _ _ _ h
  · exact exec_alike .nop (h.finish _)
  · split
    · exact exec_alike .nop (State.alike_iff.mpr ⟨b, hb, rfl⟩)
    · exact exec_alike .nop h

/-- Alike states step alike, or stop alike. -/
theorem step_alike {s t : State} (h : s.alike t) : OutcomesAlike (step s) (step t) := by
  obtain ⟨hblock, hout, htrace, hport, hsession, hlink⟩ := id h
  cases ht : t.port with
  | nil =>
    rw [step_of_port_nil (hport.trans ht), step_of_port_nil ht]
    exact hostStep_alike h
  | cons r rest =>
    cases hdec : decode r with
    | ok i =>
      rw [step_of_decode_ok (hport.trans ht) hdec, step_of_decode_ok ht hdec]
      exact exec_alike i ⟨hblock, hout, htrace, rfl, hsession, hlink⟩
    | error e =>
      rw [step_of_decode_error (hport.trans ht) hdec, step_of_decode_error ht hdec]
      exact .refused _

/-- Settles O53: alike states show the host the same, and their steps have alike outcomes. -/
theorem staleBytesReachNoResult : Obligations.StaleBytesReachNoResult :=
  fun _ _ h => ⟨h.1.readable_eq, (step_alike h).next_or_stop⟩

end Sys2Proof.Machine
end

section
/-! PROOFS. The host never stops (10_state R39; 60 R269, R282): what it has still to do stays within what the block allows. -/

namespace Sys2Proof.Machine

/-- The block allows the actions: the test of `State.hostReady`, at a block. -/
def Block.allows (b : Block) (acts : List HostAct) : Prop :=
  actsReady b.latValid (b.busy || b.res != 0) (!b.busy && b.res != 0) acts = true

theorem State.hostReady_iff (s : State) :
    s.hostReady ↔ s.port = [] ∧ ∀ r, s.session.running = some r → s.block.allows r.acts := Iff.rfl

/-- A test that is passed is passed with a weaker gate and a weaker rest. -/
theorem gate_mono {g x g' x' : Bool} (hg : g = true → g' = true) (hx : x = true → x' = true)
    (h : (g && x) = true) : (g' && x') = true :=
  Bool.and_eq_true_iff.mpr ((Bool.and_eq_true_iff.mp h).imp hg hx)

/-- More known of the block never forbids an action. -/
theorem actsReady_mono {v b e v' b' e' : Bool} {acts : List HostAct} (hv : v = true → v' = true)
    (hb : b = true → b' = true) (he : e = true → e' = true) (h : actsReady v b e acts = true) :
    actsReady v' b' e' acts = true := by
  induction acts generalizing v b e v' b' e' with
  | nil => rfl
  | cons a rest ih =>
    cases a with
    | send o => exact ih hv hb he h
    | select src base => exact ih hv hb he h
    | read => exact gate_mono hb (ih hv id id) h
    | check => exact gate_mono he (ih id hb he) h
    | give q => exact gate_mono hv (ih hv hb he) h
    | drivePower on => exact gate_mono hv (ih hv hb he) h
    | toggleUnless d k o => exact gate_mono hv (ih hv hb he) h
    | issue i =>
      cases i with
      | fpStart => exact ih hv id id h
      | fpByte x => exact gate_mono hb (ih hv hb he) h
      | fpEnd => exact gate_mono hb (ih hv id id) h
      | _ => exact absurd h Bool.false_ne_true

/-- Commands may be sent at any time. -/
theorem actsReady_sends (v b e : Bool) (opcodes : List Byte) (rest : List HostAct) :
    actsReady v b e (opcodes.map .send ++ rest) = actsReady v b e rest := by
  induction opcodes with
  | nil => rfl
  | cons o opcodes ih => exact ih

/-- `set_power` decides between commands (44 R228). -/
theorem drivePowerActs_eq_sends (on : Bool) (f : Frame) : ∃ opcodes : List Byte, drivePowerActs on f = opcodes.map .send := by
  unfold drivePowerActs
  split
  · exact ⟨[0x01], rfl⟩
  · split
    · exact ⟨[0x02], rfl⟩
    · exact ⟨[], rfl⟩

/-- A toggle is one command or none (44 R230). -/
theorem toggleActs_eq_sends (d : Bool) (k : FlagName) (o : Byte) (f : Frame) :
    ∃ opcodes : List Byte, toggleActs d k o f = opcodes.map .send := by
  unfold toggleActs
  split
  · exact ⟨[o], rfl⟩
  · exact ⟨[], rfl⟩

/-- A refresh may begin at any time, and what follows it finds a valid latch and a finished decode. -/
theorem actsReady_refreshActs (v b e : Bool) (rest : List HostAct) :
    actsReady v b e (refreshActs ++ rest) = actsReady true true true rest := by
  simp [refreshActs, actsReady]

/-- A reply's bytes, then the end of it, once a decode has begun: afterwards it has finished. -/
theorem actsReady_reply (v e : Bool) (bytes : List Byte) (rest : List HostAct) :
    actsReady v true e (bytes.map (fun x => .issue (.fpByte x)) ++ .issue .fpEnd :: rest)
      = actsReady v true true rest := by
  induction bytes with
  | nil => simp [actsReady]
  | cons x bytes ih => simpa [actsReady] using ih

/-- Every operation of the host may begin in any state of the block (44 R225 to R247). -/
theorem actsReady_expandCall (v b e dr : Bool) (c : Call) : actsReady v b e (expandCall dr c) = true := by
  have hrefresh : ∀ rest, actsReady true true true rest = true → actsReady v b e (refreshActs ++ rest) = true :=
    fun rest h => (actsReady_refreshActs v b e rest).trans h
  have hsends : ∀ n o, actsReady v b e (List.replicate n (.send o)) = true := fun n o => by
    simpa [actsReady] using actsReady_sends v b e (List.replicate n o) []
  cases c with
  | refresh => exact hrefresh [] rfl
  | volumeUp n => exact hsends n _
  | volumeDown n => exact hsends n _
  | setToneDirect flag =>
    cases dr with
    | false => exact hrefresh _ rfl
    | true =>
      simp only [expandCall, if_true, List.append_assoc, actsReady_refreshActs]
      rfl
  | zone2VolumeUp | zone2VolumeDown | setInput _ | setZone2Input _ => rfl
  | _ => exact hrefresh _ rfl

/-- The block operations a host in the middle of an operation still issues, and what it needs afterwards. -/
theorem actsReady_issue {v b e : Bool} {i : Instr} {rest : List HostAct}
    (h : actsReady v b e (.issue i :: rest) = true) :
    (i = .fpStart ∧ actsReady v true false rest = true)
    ∨ (∃ x, i = .fpByte x ∧ b = true ∧ actsReady v b e rest = true)
    ∨ (i = .fpEnd ∧ b = true ∧ actsReady v true true rest = true) := by
  cases i with
  | fpStart => exact .inl ⟨rfl, h⟩
  | fpByte x => exact .inr (.inl ⟨x, rfl, Bool.and_eq_true_iff.mp h⟩)
  | fpEnd => exact .inr (.inr ⟨rfl, Bool.and_eq_true_iff.mp h⟩)
  | _ => exact absurd h Bool.false_ne_true

/-- A finished decode has begun. -/
theorem Block.allows_of_ended {b : Block} {acts : List HostAct} (idle : b.busy = false) (hres : b.res ≠ 0)
    (h : actsReady b.latValid true true acts = true) : b.allows acts := by
  have hended : (b.res != 0) = true := bne_iff_ne.mpr hres
  rw [Block.allows, idle, hended]
  exact h

/-- A receiving block has begun a decode and not finished it. -/
theorem Block.allows_iff_of_receiving {b : Block} (receiving : b.busy = true) (acts : List HostAct) :
    b.allows acts ↔ actsReady b.latValid true false acts = true := by
  simp [Block.allows, receiving]

/-- A completed frame leaves a result, and a latch at least as valid. -/
theorem completeFrame_allows {b : Block} {acts : List HostAct} (h : actsReady b.latValid true false acts = true) :
    (completeFrame b).allows acts := by
  have hmore : ∀ v', (b.latValid = true → v' = true) → actsReady v' true true acts = true :=
    fun v' hv => actsReady_mono hv id (fun _ => rfl) h
  refine Block.allows_of_ended (completeFrame_busy b) ?_ ?_
  · rcases completeFrame_cases b with ⟨_, e⟩ | ⟨_, _, e⟩ | ⟨_, _, e⟩ <;> rw [e] <;>
      simp [Config.resUnexpectedCount, Config.resChecksumMismatch, Config.resOk]
  · refine hmore _ fun hv => ?_
    rcases completeFrame_cases b with ⟨_, e⟩ | ⟨_, _, e⟩ | ⟨_, _, e⟩ <;> simp [e, hv]

theorem acceptByte_allows {b : Block} {acts : List HostAct} (byte : Byte) (hb : b.legal) (receiving : b.busy = true)
    (h : b.allows acts) : (acceptByte byte b).allows acts := by
  rcases acceptByte_cases byte b with ⟨_, e⟩ | ⟨_, e⟩ | ⟨hcnt, e⟩ <;> rw [e]
  · exact h
  · exact completeFrame_allows ((Block.allows_iff_of_receiving receiving acts).mp h)
  · have := hb.1 receiving
    omega

/-- After an operation the host issues, the block allows what the host has still to do. -/
theorem Performs.allows {i : Instr} {s t : State} {rest : List HostAct} (h : Performs s i t) (hs : s.block.legal)
    (hacts : s.block.allows (.issue i :: rest)) : t.block.allows rest := by
  rcases actsReady_issue hacts with ⟨rfl, hrest⟩ | ⟨x, rfl, _, hrest⟩ | ⟨rfl, hbegun, hrest⟩
  · cases h with
    | wireCommand named => cases named
    | fpStart => exact (Block.allows_iff_of_receiving rfl rest).mpr hrest
  · cases h with
    | wireCommand named => cases named
    | byteAccepted _ receiving => exact acceptByte_allows x hs receiving hrest
    | byteDropped _ idle => exact hrest
  · cases h with
    | wireCommand named => cases named
    | endShort receiving => exact Block.allows_of_ended rfl (by simp [Config.resShortFrame]) hrest
    | endIgnored idle => exact Block.allows_of_ended idle (by simpa [idle] using hbegun) hrest

/-- A finished decode of a legal block has an outcome, and `OK` has a valid latch (60 R282). -/
theorem refreshOutcome_cases {b : Block} (hb : b.legal) (hres : b.res ≠ 0) :
    (refreshOutcome b = some none ∧ b.latValid = true) ∨ ∃ e, refreshOutcome b = some (some e) := by
  obtain ⟨_, _, hok, _, _, _, _, _, h5, h6, h7⟩ := hb
  have hcodes : ∀ r : BitVec 3, r ≠ 0 → r ≠ 5 → r ≠ 6 → r ≠ 7 → r = 1 ∨ r = 2 ∨ r = 3 ∨ r = 4 := by decide
  rcases hcodes b.res hres h5 h6 h7 with h | h | h | h <;> simp only [refreshOutcome, h]
  · exact .inl ⟨rfl, (hok h).1⟩
  · exact .inr ⟨.shortFrame, rfl⟩
  · exact .inr ⟨.unexpectedCount b.errActual b.errExpected, rfl⟩
  · exact .inr ⟨.checksumMismatch b.errActual b.errExpected, rfl⟩

/-- The outcome is a next state whose host is ready. -/
def ReadyNext (o : Host.Outcome State Fault Refusal) : Prop := ∃ t, o = .next t ∧ t.hostReady

theorem readyNext_nop {s : State} (h : s.hostReady) : ReadyNext (exec .nop s) := ⟨_, exec_nop s, h⟩

theorem State.proceed_hostReady {s : State} {acts : List HostAct} (hport : s.port = []) (c : Call)
    (h : s.block.allows acts) : (s.proceed c acts).hostReady := by
  refine (State.hostReady_iff _).mpr ⟨hport, fun r hr => ?_⟩
  cases hr
  exact h

theorem State.finish_hostReady {s : State} (hport : s.port = []) (r : HostResult) : (s.finish r).hostReady :=
  ⟨hport, nofun⟩

/-- After a host error the operation is over, or begins again from its first action (44 R249, R251). -/
theorem State.raiseHost_hostReady {s : State} (hport : s.port = []) (c : Call) (e : HostError) :
    (s.raiseHost c e).hostReady := by
  rcases State.raiseHost_cases s c e with ⟨_, h⟩ | ⟨_, h⟩ <;> rw [h]
  · exact State.proceed_hostReady hport c (actsReady_expandCall ..)
  · exact State.finish_hostReady hport _

theorem readyNext_viewStep {s : State} {act : Frame → State} (hvalid : s.block.latValid = true)
    (h : ∀ f, (act f).hostReady) : ReadyNext (viewStep s act) := by
  rcases viewStep_cases s act with ⟨_, e⟩ | ⟨hinvalid, _⟩
  · rw [e]
    exact readyNext_nop (h _)
  · rw [hvalid] at hinvalid
    cases hinvalid

/-- One action of a ready host in a legal state. -/
theorem hostAct_readyNext {c : Call} {a : HostAct} {rest : List HostAct} {s : State} (hs : s.block.legal)
    (hport : s.port = []) (h : s.block.allows (a :: rest)) : ReadyNext (hostAct c a rest s) := by
  cases a with
  | issue i =>
    rcases performs_or_badChecksum i (s.proceed c rest) with ⟨t, ht⟩ | ⟨o, k, rfl, _⟩
    · refine ⟨t, exec_of_performs ht, ?_⟩
      rw [exec_next_eq_after (exec_of_performs ht)]
      refine ⟨hport, fun r hr => ?_⟩
      cases hr
      exact ht.allows hs h
    · exact absurd h Bool.false_ne_true
  | send o => exact ⟨_, sendStep_eq o _, State.proceed_hostReady hport c h⟩
  | read =>
    obtain ⟨hbegun, hrest⟩ := Bool.and_eq_true_iff.mp h
    refine readyNext_nop ⟨hport, fun r hr => ?_⟩
    cases hr
    exact hbegun ▸ (actsReady_reply _ _ _ rest).trans hrest
  | check =>
    obtain ⟨hended, hrest⟩ := Bool.and_eq_true_iff.mp h
    obtain ⟨hidle, hres⟩ := Bool.and_eq_true_iff.mp hended
    simp only [hostAct]
    rcases refreshOutcome_cases hs (bne_iff_ne.mp hres) with ⟨e, hvalid⟩ | ⟨err, e⟩ <;> rw [e]
    · have hallows : s.block.allows rest := by rwa [Block.allows, hvalid]
      exact readyNext_nop (State.proceed_hostReady hport c hallows)
    · exact readyNext_nop (State.raiseHost_hostReady hport c err)
  | give q =>
    obtain ⟨hvalid, _⟩ := Bool.and_eq_true_iff.mp h
    refine readyNext_viewStep hvalid fun f => ?_
    split
    · exact State.finish_hostReady hport _
    · exact State.raiseHost_hostReady hport c _
  | drivePower on =>
    obtain ⟨hvalid, hrest⟩ := Bool.and_eq_true_iff.mp h
    refine readyNext_viewStep hvalid fun f => State.proceed_hostReady hport c ?_
    obtain ⟨opcodes, e⟩ := drivePowerActs_eq_sends on f
    rw [e]
    exact (actsReady_sends ..).trans hrest
  | toggleUnless d k o =>
    obtain ⟨hvalid, hrest⟩ := Bool.and_eq_true_iff.mp h
    refine readyNext_viewStep hvalid fun f => State.proceed_hostReady hport c ?_
    obtain ⟨opcodes, e⟩ := toggleActs_eq_sends d k o f
    rw [e]
    exact (actsReady_sends ..).trans hrest
  | select src base =>
    simp only [hostAct]
    split
    · exact readyNext_nop (State.proceed_hostReady hport c h)
    · exact readyNext_nop (State.raiseHost_hostReady hport c _)

theorem hostStep_readyNext {s : State} (hs : s.block.legal) (h : s.hostReady) : ReadyNext (hostStep s) := by
  obtain ⟨hport, hrunning⟩ := h
  unfold hostStep
  split
  next c a rest hr => exact hostAct_readyNext hs hport (hrunning _ hr)
  next c hr => exact readyNext_nop (State.finish_hostReady hport _)
  next hr =>
    split
    next c cs hcalls =>
      refine readyNext_nop ⟨hport, fun r hr => ?_⟩
      cases hr
      exact actsReady_expandCall ..
    next => exact readyNext_nop ⟨hport, hrunning⟩

/-- Settles O54: a ready host's step is a next state with a ready host, and every step keeps the block legal. -/
theorem hostNeverStops : Obligations.HostNeverStops := by
  intro s hs h
  obtain ⟨t, ht, hready⟩ := hostStep_readyNext hs h
  have hstep : step s = .next t := (step_of_port_nil h.1).trans ht
  exact ⟨t, hstep, step_legal hs hstep, hready⟩

end Sys2Proof.Machine
end

section
/-! PROOFS. Outputs and write sets of one operation (10_state R33, R34, R41). -/

namespace Sys2Proof.Machine

/-- Settles O34: of the rules for `FP_BYTE` and `FP_END` only those of a receiving block can strobe, and no other does. -/
theorem doneStrobesExactlyWhenADecodeFinishes : Obligations.DoneStrobesExactlyWhenADecodeFinishes := by
  intro i s t h
  have hcount : s.block.cnt.toNat = 19 ↔ s.block.cnt = 19 := BitVec.toNat_inj (y := 19)
  cases exec_eq_next_iff.mp h with
  | wireCommand named =>
    refine iff_of_false (by simp) ?_
    rintro ⟨_, ⟨b, rfl, _⟩ | rfl⟩ <;> cases named
  | byteAccepted b receiving => simp [completesFrame, receiving, hcount]
  | byteDropped b idle => simp [idle]
  | endShort receiving => simp [receiving]
  | endIgnored idle => simp [idle]
  | _ => simp

/-- The command frame an instruction asks for: a function of the request alone (10_state R33). -/
def requestedFrame : Instr → Option CommandFrame
  | .cmdEnc o => some (commandFrame o)
  | .cmdFrame o _ => some (commandFrame o)
  | i => (wireOpcode i).map commandFrame

theorem requestedFrame_of_wireOpcode {i : Instr} {o : Byte} (named : wireOpcode i = some o) :
    requestedFrame i = some (commandFrame o) := by
  unfold requestedFrame
  split
  · cases named
  · cases named
  · rw [named]
    rfl

theorem requestedFrame_isSome_iff (i : Instr) :
    (requestedFrame i).isSome = true
      ↔ (wireOpcode i).isSome = true ∨ (∃ o, i = .cmdEnc o) ∨ (∃ o c, i = .cmdFrame o c) := by
  unfold requestedFrame
  split
  · simp
  · simp
  next henc hframe =>
    rw [Option.isSome_map]
    refine ⟨.inl, ?_⟩
    rintro (named | ⟨o, rfl⟩ | ⟨o, c, rfl⟩)
    · exact named
    · exact (henc o rfl).elim
    · exact (hframe o c rfl).elim

/-- What a step presents is the frame its request asks for. -/
theorem Performs.cmdOut_eq {i : Instr} {s t : State} (h : Performs s i t) : t.out.cmdOut = requestedFrame i := by
  cases h with
  | wireCommand named => exact (requestedFrame_of_wireOpcode named).symm
  | _ => rfl

/-- Settles O35: what is presented is `requestedFrame`, which knows no state. -/
theorem commandOutputDependsOnTheRequestAlone : Obligations.CommandOutputDependsOnTheRequestAlone := by
  intro i s s' t t' h h'
  have ht := (exec_eq_next_iff.mp h).cmdOut_eq
  have ht' := (exec_eq_next_iff.mp h').cmdOut_eq
  refine ⟨ht.trans ht'.symm, ?_⟩
  rw [Output.cmdValid, ht]
  exact requestedFrame_isSome_iff i

/-- A command operation, `NOP` and the reserved operation change no element (40 R103, R106; 41 R120). -/
theorem Performs.block_eq_of_no_drive {i : Instr} {s t : State} (h : Performs s i t)
    (hparser : drivesParser i = false) (hacc : drivesAccumulator i = false) : t.block = s.block := by
  have hexec := exec_of_performs h
  rw [(exec_parser_untouched hparser hexec).1, exec_accumulator_untouched hacc hexec]

/-- An operation changes nothing of the machine but the block and its outputs (10_state R41). -/
theorem exec_keeps_outside {i : Instr} {s t : State} (h : exec i s = .next t) :
    t.traceFitted = s.traceFitted ∧ t.port = s.port ∧ t.session = s.session ∧ t.link = s.link := by
  have hafter := exec_next_eq_after h
  generalize t.block = b, t.out = o at hafter
  subst hafter
  exact ⟨rfl, rfl, rfl, rfl⟩

/-- Settles O48: what is outside the block stays by `exec_keeps_outside`; the rule of each operation shows the rest. -/
theorem eachOperationWritesOnlyItsSet : Obligations.EachOperationWritesOnlyItsSet := by
  intro i s t h
  have hp := exec_eq_next_iff.mp h
  obtain ⟨htrace, hport, hsession, hlink⟩ := exec_keeps_outside h
  refine ⟨htrace, hport, hsession, hlink, ?_⟩
  cases i with
  | reset =>
    cases h
    exact ⟨rfl, rfl⟩
  | csClr =>
    cases h
    rfl
  | csAdd b =>
    cases h
    rfl
  | fpStart =>
    cases h
    rfl
  | fpByte b =>
    refine ⟨exec_accumulator_untouched rfl h, fun idle => ?_⟩
    cases hp with
    | wireCommand named => cases named
    | byteAccepted _ receiving => simp [idle] at receiving
    | byteDropped => rfl
  | fpEnd =>
    cases hp with
    | wireCommand named => cases named
    | endShort receiving => exact ⟨rfl, fun idle => by simp [idle] at receiving⟩
    | endIgnored => exact ⟨rfl, fun _ => rfl⟩
  | _ => exact hp.block_eq_of_no_drive rfl rfl

end Sys2Proof.Machine
end

section
/-! PROOFS. `RESET`, the reset state, the invalid latch, and what a step takes from the port (10_state R38, R39, R40, R42). -/

namespace Sys2Proof.Machine

/-- Settles O2: the pin alone decides the decoding, and `RESET` is its element part with quiet outputs. -/
theorem resetOperationClearsAllButFrameBytes : Obligations.ResetOperationClearsAllButFrameBytes :=
  fun _ _ => ⟨rfl, rfl, rfl⟩

/-- Settles O37: the readable latch follows `lat_valid`, and a view step follows the readable latch. -/
theorem invalidLatchHasNoViews : Obligations.InvalidLatchHasNoViews := by
  refine fun s => ⟨fun valid => by simp [Block.latched, valid], fun invalid => ?_⟩
  have hnone : s.block.latched = none := by simp [Block.latched, invalid]
  refine ⟨hnone, hnone, fun act => ?_⟩
  rcases viewStep_cases s act with ⟨valid, _⟩ | ⟨_, h⟩
  · simp [invalid] at valid
  · exact h

/-- Settles O47: the three cases of a step, by what waits at the port. -/
theorem stepRunsTheDecodedOperation : Obligations.StepRunsTheDecodedOperation := by
  refine ⟨fun s r rest i => step_of_decode_ok, fun s r rest e => step_of_decode_error, fun s hport hrun hcalls => ?_⟩
  rw [step_of_port_nil hport]
  simp [hostStep, hrun, hcalls]

/-- Settles O51: at reset no phase, result or latch is there for a fact to speak of, and no operation is running. -/
theorem resetStateIsLegalAndReady : Obligations.ResetStateIsLegalAndReady :=
  ⟨clearBlock_legal State.reset.block, fun _ _ => ⟨rfl, nofun⟩⟩

end Sys2Proof.Machine
end

section
/-! PROOFS. The decoder (10_state R42; 30 R83, R84, R88): operation words by their upper three bits, frame words by header
and checksum. -/

namespace Sys2Proof.Machine

/-- The mask of format OP keeps `op` and clears `din` (30 R84, R89). -/
theorem operation_mask_eq (w : BitVec 11) : w &&& 0x700#11 = w.extractLsb' 8 3 ++ 0#8 := by
  apply BitVec.eq_of_getLsbD_eq
  intro i hi
  rw [BitVec.getLsbD_append, BitVec.getLsbD_and, BitVec.getLsbD_extractLsb']
  interval_cases i <;> simp

/-- The mask of the general command frame keeps the header and clears the rest (30 R88, R89). -/
theorem frame_mask_eq (w : BitVec 32) : w &&& 0xFFFF0000#32 = w.extractLsb' 16 16 ++ 0#16 := by
  apply BitVec.eq_of_getLsbD_eq
  intro i hi
  rw [BitVec.getLsbD_append, BitVec.getLsbD_and, BitVec.getLsbD_extractLsb']
  interval_cases i <;> simp

/-- An operation word decodes to the one row of its upper three bits (30 R84). -/
theorem decode_op (w : BitVec 11) :
    decode (.op w) = .ok (sampledOperation (false, w.extractLsb' 8 3, w.extractLsb' 0 8)) := by
  have hmask := operation_mask_eq w
  have hall : ∀ op : BitVec 3, op = 0 ∨ op = 1 ∨ op = 2 ∨ op = 3 ∨ op = 4 ∨ op = 5 ∨ op = 6 ∨ op = 7 := by decide
  generalize w.extractLsb' 8 3 = op at hmask ⊢
  rcases hall op with rfl | rfl | rfl | rfl | rfl | rfl | rfl | rfl <;>
    simp [decode, decodeAll, operationRows, rowMatches, hmask, sampledOperation, operationOperand]

/-- The rows of the 27 wire commands: all but the last of format CMD (30 R83). -/
def wireRows : List (Row 32) := commandRows.take 27

/-- The row of the general command frame, the last of format CMD (30 R88). -/
def generalRow : Row 32 :=
  ⟨0xFFFF0000, 0x81730000, fun w => .cmdFrame (wordOpcode w) (wordChecksum w)⟩

theorem commandRows_eq : commandRows = wireRows ++ [generalRow] := rfl

/-- A wire command's row fixes the whole word, and that word is the command's own frame. -/
theorem wireRows_frame_their_commands : ∀ r ∈ wireRows,
    r.mask = BitVec.allOnes 32 ∧ wireOpcode (r.make r.pattern) = some (wordOpcode r.pattern)
    ∧ frameWellFormed r.pattern = true := by
  decide

theorem frameWellFormed_iff (w : BitVec 32) :
    frameWellFormed w = true ↔ wordHeader w = 0x8173#16 ∧ wordChecksum w = commandChecksum (wordOpcode w) := by
  unfold frameWellFormed
  rw [Bool.and_eq_true_iff, beq_iff_eq, beq_iff_eq]
  rfl

/-- The general row stands for every word with the header (30 R88). -/
theorem rowMatches_generalRow_iff (w : BitVec 32) : rowMatches generalRow w = true ↔ wordHeader w = 0x8173#16 := by
  have hpattern : generalRow.pattern = 0x8173#16 ++ 0#16 := rfl
  have hmask : w &&& generalRow.mask = wordHeader w ++ 0#16 := frame_mask_eq w
  rw [rowMatches, beq_iff_eq, hmask, hpattern, BitVec.append_left_inj]

/-- The rows a word can stand for: a wire command, whose frame it then is, or the general frame. -/
theorem rowMatches_cases {r : Row 32} {w : BitVec 32} (hr : r ∈ commandRows) (h : rowMatches r w = true) :
    (wireOpcode (r.make w) = some (wordOpcode w) ∧ frameWellFormed w = true)
    ∨ (r.make w = .cmdFrame (wordOpcode w) (wordChecksum w) ∧ wordHeader w = 0x8173#16) := by
  rw [commandRows_eq, List.mem_append, List.mem_singleton] at hr
  rcases hr with hwire | rfl
  · obtain ⟨hmask, hnamed, hwf⟩ := wireRows_frame_their_commands r hwire
    rw [rowMatches, hmask, BitVec.and_allOnes, beq_iff_eq] at h
    rw [h]
    exact .inl ⟨hnamed, hwf⟩
  · exact .inr ⟨rfl, (rowMatches_generalRow_iff w).mp h⟩

/-- A frame word decodes to a row it stands for, unless there is none. -/
theorem decode_frame_cases (w : BitVec 32) :
    ((∀ r ∈ commandRows, rowMatches r w = false) ∧ decode (.frame w) = .error .notACommandFrame)
    ∨ ∃ r ∈ commandRows, rowMatches r w = true ∧ decode (.frame w) = .ok (r.make w) := by
  simp only [decode, decodeAll]
  cases hrows : commandRows.filter (rowMatches · w) with
  | nil =>
    refine .inl ⟨fun r hr => ?_, rfl⟩
    simpa using List.filter_eq_nil_iff.mp hrows r hr
  | cons r rows =>
    have hr : r ∈ commandRows.filter (rowMatches · w) := hrows ▸ List.mem_cons_self
    obtain ⟨hmem, hmatch⟩ := List.mem_filter.mp hr
    exact .inr ⟨r, hmem, hmatch, rfl⟩

/-- Settles O45: an operation word by `decode_op`; a frame word stands for some row exactly when it has the header, and
that row is a wire command only if the word is well formed. -/
theorem portSamplesAreDispatched : Obligations.PortSamplesAreDispatched := by
  refine ⟨fun w => ⟨decode_op w, rfl⟩, fun w hheader => ?_, fun w hheader => ?_⟩
  · rcases decode_frame_cases w with ⟨_, herr⟩ | ⟨r, hr, hmatch, _⟩
    · exact herr
    · rcases rowMatches_cases hr hmatch with ⟨_, hwf⟩ | ⟨_, h⟩
      · exact absurd ((frameWellFormed_iff w).mp hwf).1 hheader
      · exact absurd h hheader
  · rcases decode_frame_cases w with ⟨hnone, _⟩ | ⟨r, hr, hmatch, hdec⟩
    · have hlast := hnone generalRow (by simp [commandRows_eq])
      rw [(rowMatches_generalRow_iff w).mpr hheader] at hlast
      cases hlast
    · refine ⟨r.make w, hdec, fun hwf s => ?_, fun hbad s => ?_⟩ <;>
        rcases rowMatches_cases hr hmatch with ⟨hnamed, hgood⟩ | ⟨hgeneral, _⟩
      · exact exec_of_wireOpcode hnamed s
      · rw [hgeneral, ((frameWellFormed_iff w).mp hwf).2]
        exact exec_of_performs (.cmdFrame _)
      · rw [hgood] at hbad
        cases hbad
      · rw [hgeneral]
        refine exec_cmdFrame_of_ne (fun hsum => ?_) s
        rw [(frameWellFormed_iff w).mpr ⟨hheader, hsum⟩] at hbad
        cases hbad

end Sys2Proof.Machine
end

section
/-! PROOFS. Which frames the reference decoder accepts, and two changes of a frame that it cannot see: one of the system id,
and an exchange of bytes within the sum (20 R66). -/

namespace Sys2Proof.Machine

/-- Twenty bytes are accepted, as they are, exactly when they pass the count test and the checksum test (42 R160). -/
theorem decodeStatus_eq_accepted_iff (f : Frame) :
    decodeStatus f.toList = .accepted f ↔ f[2] = 16 ∧ csum8 (frameBytes f 2 18) = f[19] := by
  have hframe : frameOf f.toList = some f := by simpa using frameOf_append f []
  simp only [decodeStatus, hframe]
  split
  next hcount => exact iff_of_false nofun fun h => hcount h.1
  next hcount =>
    split
    next hsum => exact iff_of_false nofun fun h => hsum h.2
    next hsum => exact iff_of_true rfl ⟨not_not.mp hcount, not_not.mp hsum⟩

/-- The sum does not depend on the order of the bytes (40 R100). -/
theorem csum8_eq_of_perm {s t : List Byte} (h : s.Perm t) : csum8 s = csum8 t :=
  congrArg low8 (h.map BitVec.toNat).sum_eq

/-- A frame is the system id, the summed bytes and the checksum (30 R74, R79). -/
theorem frame_toList_eq_summed (f : Frame) : f.toList = f[0] :: f[1] :: (frameBytes f 2 18 ++ [f[19]]) := by
  rw [frame_toList, frameBytes_two_eighteen]
  rfl

/-- The summed bytes of a frame with its bytes rearranged, the system id and the checksum left in place. -/
theorem frameBytes_perm_of_toList_perm {f g : Frame} (h : g.toList.Perm f.toList) (h0 : g[0] = f[0]) (h1 : g[1] = f[1])
    (h19 : g[19] = f[19]) : (frameBytes g 2 18).Perm (frameBytes f 2 18) := by
  rw [frame_toList_eq_summed f, frame_toList_eq_summed g, h0, h1, h19] at h
  exact (List.perm_append_right_iff _).mp h.cons_inv.cons_inv

/-- The verdict does not depend on offsets 0 and 1 (20 R66). -/
theorem accepted_of_agree_from_two {f g : Frame} (h : ∀ i : Fin 20, 2 ≤ i.val → g[i] = f[i])
    (hf : decodeStatus f.toList = .accepted f) : decodeStatus g.toList = .accepted g := by
  have hbyte (k : Nat) (hk : k < 20) (h2 : 2 ≤ k) : g[k] = f[k] := h ⟨k, hk⟩ h2
  have hsummed : frameBytes g 2 18 = frameBytes f 2 18 := by
    simp [frameBytes_two_eighteen, hbyte]
  rw [decodeStatus_eq_accepted_iff] at hf ⊢
  rwa [hsummed, hbyte 2 (by omega) (by omega), hbyte 19 (by omega) (by omega)]

/-- The verdict does not depend on the order of the summed bytes after the count byte (20 R66). -/
theorem accepted_swap {f : Frame} {i j : Fin 20} (hf : decodeStatus f.toList = .accepted f) (hi3 : 3 ≤ i.val)
    (hi18 : i.val ≤ 18) (hj3 : 3 ≤ j.val) (hj18 : j.val ≤ 18) :
    decodeStatus (f.swap i j).toList = .accepted (f.swap i j) := by
  have hkept (k : Nat) (hk : k < 20) (hout : k < 3 ∨ 18 < k) : (f.swap i j)[k] = f[k] :=
    Vector.getElem_swap_of_ne (by omega) (by omega)
  have hsummed : (frameBytes (f.swap i j) 2 18).Perm (frameBytes f 2 18) :=
    frameBytes_perm_of_toList_perm (Vector.swap_perm i.isLt j.isLt).toList (hkept 0 (by omega) (by omega))
      (hkept 1 (by omega) (by omega)) (hkept 19 (by omega) (by omega))
  rw [decodeStatus_eq_accepted_iff] at hf ⊢
  rwa [csum8_eq_of_perm hsummed, hkept 2 (by omega) (by omega), hkept 19 (by omega) (by omega)]

/-- Settles O31: no test of the decoder reads the system id, and the sum is the same in every order. -/
theorem systemIdChangesAndSwapsAreAccepted : Obligations.SystemIdChangesAndSwapsAreAccepted :=
  ⟨fun _ _ => accepted_of_agree_from_two, fun _ _ _ => accepted_swap⟩

/-- Settles O50: the one operation of `step_blockPerforms`, read as `exec`. -/
theorem eachStepPerformsOneOperation : Obligations.EachStepPerformsOneOperation := by
  intro s t h
  obtain ⟨i, v, hperforms, hblock, hout⟩ := step_blockPerforms h
  exact ⟨i, v, exec_of_performs hperforms, hblock, hout⟩

end Sys2Proof.Machine
end

section
/-! PROOFS. The encoder against the decoder (30 R73, R83, R84, R88, R89): an operation word and a frame word give back
the fields they were put together from, and the rows that share a frame share its effect. -/

namespace Sys2Proof.Machine

/-- An operation word decodes to the operation that its two fields ask for (30 R84). -/
theorem decode_operationWord (op : BitVec 3) (din : Byte) :
    decode (.op (operationWord op din)) = .ok (sampledOperation (false, op, din)) := by
  have hop : (operationWord op din).extractLsb' 8 3 = op := BitVec.extractLsb'_append_eq_left
  have hdin : (operationWord op din).extractLsb' 0 8 = din := BitVec.extractLsb'_append_eq_right
  rw [decode_op, hop, hdin]

@[simp] theorem wordHeader_frameWord (b0 b1 b2 b3 : Byte) : wordHeader (frameWord b0 b1 b2 b3) = b0 ++ b1 :=
  calc (b0 ++ b1 ++ b2 ++ b3).extractLsb' 16 16
    _ = (b0 ++ b1 ++ b2).extractLsb' 8 16 := BitVec.extractLsb'_append_eq_of_le (by omega)
    _ = b0 ++ b1 := BitVec.extractLsb'_append_eq_left

@[simp] theorem wordOpcode_frameWord (b0 b1 b2 b3 : Byte) : wordOpcode (frameWord b0 b1 b2 b3) = b2 :=
  calc (b0 ++ b1 ++ b2 ++ b3).extractLsb' 8 8
    _ = (b0 ++ b1 ++ b2).extractLsb' 0 8 := BitVec.extractLsb'_append_eq_of_le (by omega)
    _ = b2 := BitVec.extractLsb'_append_eq_right

@[simp] theorem wordChecksum_frameWord (b0 b1 b2 b3 : Byte) : wordChecksum (frameWord b0 b1 b2 b3) = b3 :=
  BitVec.extractLsb'_append_eq_right

/-- The frame word of an opcode is a command frame (30 R88). -/
theorem frameWellFormed_commandWord (o : Byte) : frameWellFormed (commandWord o) = true :=
  (Laws.EncodingFitsRow.frame_fits o (by simp [Instr.wellFormed])).2

@[simp] theorem wordHeader_commandWord (o : Byte) : wordHeader (commandWord o) = 0x8173#16 :=
  wordHeader_frameWord _ _ _ _

@[simp] theorem wordOpcode_commandWord (o : Byte) : wordOpcode (commandWord o) = o := wordOpcode_frameWord _ _ _ _

@[simp] theorem wordChecksum_commandWord (o : Byte) : wordChecksum (commandWord o) = commandChecksum o :=
  wordChecksum_frameWord _ _ _ _

/-- What a request is decoded to is among the rows it stands for. -/
theorem mem_decodeAll_of_decode {r : Request} {i : Instr} (h : decode r = .ok i) : i ∈ decodeAll r := by
  unfold decode at h
  split at h
  next j rest hall =>
    cases h
    simp [hall]
  next => cases h

/-- Whatever row the frame word of an opcode is decoded to, its effect is to present that frame (90 C4). -/
theorem exec_of_decode_commandWord {o : Byte} {j : Instr} (h : decode (.frame (commandWord o)) = .ok j) (s : State) :
    exec j s = .next (s.after s.block (.command o)) := by
  obtain ⟨_, _, hframe⟩ := portSamplesAreDispatched
  obtain ⟨i, hdec, hgood, _⟩ := hframe (commandWord o) (wordHeader_commandWord o)
  have hij : i = j := Except.ok.inj (hdec.symm.trans h)
  have hopcode : (commandWord o).extractLsb' 8 8 = o := wordOpcode_commandWord o
  have heffect := hgood (frameWellFormed_commandWord o) s
  rw [hij, hopcode] at heffect
  exact heffect.trans (exec_of_performs (.cmdEnc o))

/-- A wire command is written as the frame word of its opcode (30 R83). -/
theorem encode_of_wireOpcode {i : Instr} {o : Byte} (named : wireOpcode i = some o) :
    encode i = .frame (commandWord o) := by
  cases i <;> simp only [wireOpcode, reduceCtorEq, Option.some.injEq] at named <;> subst named <;> rfl

/-- Every wire command's opcode is in the list of the named ones (30 R83). -/
theorem wireOpcode_mem_namedOpcodes {i : Instr} {o : Byte} (named : wireOpcode i = some o) : o ∈ namedOpcodes := by
  cases i <;> simp only [wireOpcode, reduceCtorEq, Option.some.injEq] at named <;> subst named <;> decide

/-- The table read row by row: a wire command's frame stands for it, and first for it where it is no second name. -/
theorem decode_encode_of_wireOpcode {i : Instr} {o : Byte} (named : wireOpcode i = some o) :
    i ∈ decodeAll (encode i) ∧ (i.firstOfItsWord = true → decode (encode i) = .ok i) := by
  cases i with
  | cmdFrame | nop | csClr | csAdd | cmdEnc | fpStart | fpByte | fpEnd | reserved7 | reset => cases named
  | _ => decide

theorem generalRow_mem_commandRows : generalRow ∈ commandRows := by simp [commandRows_eq]

theorem rowMatches_generalRow_commandWord (o : Byte) : rowMatches generalRow (commandWord o) = true :=
  (rowMatches_generalRow_iff _).mpr (wordHeader_commandWord o)

/-- The general row makes of an opcode's frame word its general frame (30 R88, R89). -/
theorem generalRow_make_commandWord (o : Byte) :
    generalRow.make (commandWord o) = .cmdFrame o (commandChecksum o) := by
  simp [generalRow]

/-- A well-formed general frame is among the rows of its word, which other rows may share (30 R88, R89). -/
theorem cmdFrame_mem_decodeAll (o : Byte) :
    .cmdFrame o (commandChecksum o) ∈ decodeAll (.frame (commandWord o)) :=
  List.mem_map.mpr ⟨generalRow,
    List.mem_filter.mpr ⟨generalRow_mem_commandRows, rowMatches_generalRow_commandWord o⟩,
    generalRow_make_commandWord o⟩

/-- A frame whose opcode no wire command has decodes to the general row: no other row stands for it. -/
theorem decode_commandWord_of_not_named {o : Byte} (unnamed : o ∉ namedOpcodes) :
    decode (.frame (commandWord o)) = .ok (.cmdFrame o (commandChecksum o)) := by
  rcases decode_frame_cases (commandWord o) with ⟨hnone, _⟩ | ⟨r, hr, hmatch, hdec⟩
  · have hlast := hnone generalRow generalRow_mem_commandRows
    rw [rowMatches_generalRow_commandWord] at hlast
    cases hlast
  · rcases rowMatches_cases hr hmatch with ⟨named, _⟩ | ⟨hgeneral, _⟩
    · rw [wordOpcode_commandWord] at named
      exact absurd (wireOpcode_mem_namedOpcodes named) unnamed
    · rw [hdec, hgeneral, wordOpcode_commandWord, wordChecksum_commandWord]

/-- How a well-formed instruction is written: as the frame of its opcode, if it is a wire command or a general frame, and
else as a word that gives it back (30 R83, R84). -/
theorem encode_cases {i : Instr} (wf : i.wellFormed = true) :
    (∃ o, wireOpcode i = some o) ∨ (∃ o, i = .cmdFrame o (commandChecksum o)) ∨ decode (encode i) = .ok i := by
  cases i with
  | cmdFrame o c =>
    have hc : c = commandChecksum o := by simpa [Instr.wellFormed] using wf
    exact .inr (.inl ⟨o, hc ▸ rfl⟩)
  | nop => exact .inr (.inr (decode_operationWord 0 0))
  | csClr => exact .inr (.inr (decode_operationWord 1 0))
  | csAdd b => exact .inr (.inr (decode_operationWord 2 b))
  | cmdEnc o => exact .inr (.inr (decode_operationWord 3 o))
  | fpStart => exact .inr (.inr (decode_operationWord 4 0))
  | fpByte b => exact .inr (.inr (decode_operationWord 5 b))
  | fpEnd => exact .inr (.inr (decode_operationWord 6 0))
  | reserved7 => exact .inr (.inr (decode_operationWord 7 0))
  | reset => exact .inr (.inr rfl)
  | _ => exact .inl ⟨_, rfl⟩

/-- Settles O44, by how the instruction is written: rows share a word only when it is a frame, and then all of them
present that frame. -/
theorem decodeAndEncodeAgree : Obligations.DecodeAndEncodeAgree := by
  intro i wf
  rcases encode_cases wf with ⟨o, named⟩ | ⟨o, rfl⟩ | hdec
  · obtain ⟨hmem, hfirst⟩ := decode_encode_of_wireOpcode named
    refine ⟨hmem, hfirst, fun j hj s => ?_⟩
    rw [encode_of_wireOpcode named] at hj
    rw [exec_of_decode_commandWord hj, exec_of_wireOpcode named]
  · refine ⟨cmdFrame_mem_decodeAll o, fun first => ?_, fun j hj s => ?_⟩
    · exact decode_commandWord_of_not_named (by simpa [Instr.firstOfItsWord] using first)
    · rw [exec_of_decode_commandWord hj, exec_of_performs (.cmdFrame o)]
  · refine ⟨mem_decodeAll_of_decode hdec, fun _ => hdec, fun j hj s => ?_⟩
    rw [Except.ok.inj (hj.symm.trans hdec)]

/-- Settles O17: the last byte is compared with the checksum of the opcode, which is `F4 + o`. -/
theorem generalFrameIsEmittedIffWellFormed : Obligations.GeneralFrameIsEmittedIffWellFormed := by
  intro s o c
  rw [← commandChecksum_eq o]
  refine ⟨fun good => ?_, fun bad => exec_cmdFrame_of_ne bad s⟩
  subst good
  exact exec_of_performs (.cmdFrame o)

/-- Settles O46: the frame words by the rows of the table, the operation words by `decode_op`. -/
theorem wordsDecodeAsTheTableSays : Obligations.WordsDecodeAsTheTableSays :=
  ⟨by decide, by decide, by decide, by decide, decode_commandWord_of_not_named (o := 0x00) (by decide),
    decode_op _, decode_op _, decode_op _, decode_op _, decode_op _, rfl⟩

end Sys2Proof.Machine
end

section
/-! PROOFS. The checksum function (40 R100 to R102): `csum8` carries concatenation to 8-bit addition, and how large the exact
sums get. -/

namespace Sys2Proof.Machine

/-- Truncation may come before the addition or after it (40 R102). -/
theorem low8_add (m n : Nat) : low8 (m + n) = low8 m + low8 n := BitVec.ofNat_add m n

@[simp] theorem csum8_singleton (a : Byte) : csum8 [a] = a := by simp [csum8_cons]

/-- The checksum of a concatenation is the 8-bit sum of the two checksums (40 R101). -/
@[simp] theorem csum8_append (s t : List Byte) : csum8 (s ++ t) = csum8 s + csum8 t := by
  simp [csum8, low8_add]

/-- A zero byte adds nothing, wherever it stands (40 R101). -/
theorem csum8_insert_zero (s t : List Byte) : csum8 (s ++ 0 :: t) = csum8 (s ++ t) := by simp [csum8_cons]

/-- A changed element changes the checksum by the same difference (40 R101). -/
theorem csum8_replace (s t : List Byte) (x y : Byte) :
    csum8 (s ++ y :: t) = csum8 (s ++ x :: t) + (y - x) := by
  simp only [csum8_append, csum8_cons]
  ring

/-- A changed element is visible in the checksum (40 R101). -/
theorem csum8_replace_ne (s t : List Byte) {x y : Byte} (h : x ≠ y) : csum8 (s ++ y :: t) ≠ csum8 (s ++ x :: t) := by
  rw [csum8_replace s t x y]
  exact fun same => h (sub_eq_zero.mp (add_eq_left.mp same)).symm

/-- Two changes that cancel leave the checksum (40 R101). -/
theorem csum8_compensated (s t u : List Byte) (x y d : Byte) :
    csum8 (s ++ (x + d) :: (t ++ (y - d) :: u)) = csum8 (s ++ x :: (t ++ y :: u)) := by
  simp only [csum8_append, csum8_cons]
  ring

/-- An 8-bit difference, computed on naturals without going below zero. -/
theorem ofNat_add_sub (c x y : Byte) : BitVec.ofNat 8 (c.toNat + y.toNat + 256 - x.toNat) = c + (y - x) := by
  bv_omega

/-- The sum kept in 8 bits at every addition, from any start, adds the checksum (40 R102). -/
theorem foldl_add_eq (s : List Byte) (a : Byte) : s.foldl (· + ·) a = a + csum8 s := by
  induction s generalizing a with
  | nil => simp
  | cons b s ih => rw [List.foldl_cons, ih, csum8_cons, BitVec.add_assoc]

/-- The sum kept in 8 bits at every addition is the checksum (40 R102). -/
theorem foldl_add_zero_eq (s : List Byte) : s.foldl (· + ·) 0 = csum8 s := (foldl_add_eq s 0).trans (zero_add _)

/-- An exact sum is at most 255 for each byte. -/
theorem sum_toNat_le (s : List Byte) : (s.map BitVec.toNat).sum ≤ 255 * s.length := by
  induction s with
  | nil => simp
  | cons b s ih =>
    have hb : b.toNat < 256 := b.isLt
    simp only [List.map_cons, List.sum_cons, List.length_cons]
    omega

/-- Settles O8: each law is a law of 8-bit addition, carried over by `csum8_append` and `csum8_cons`. -/
theorem checksumLaws : Obligations.ChecksumLaws := by
  refine ⟨csum8_singleton, fun s t => ?_, fun s b => ?_, fun s t => csum8_eq_of_perm, csum8_insert_zero,
    fun s t x y => ⟨?_, csum8_replace_ne s t⟩, csum8_compensated⟩
  · rw [csum8_append]
    exact (low8_add_toNat _ _).symm
  · rw [csum8_append, csum8_singleton]
    exact (low8_add_toNat _ _).symm
  · rw [ofNat_add_sub]
    exact csum8_replace s t x y

/-- Settles O9: the law is `low8_add`, the fold starts at 0, and each exact sum is bounded byte by byte. -/
theorem lowByteLaw : Obligations.LowByteLaw := by
  refine ⟨fun m n => ?_, foldl_add_zero_eq, fun o => ?_, fun f => ⟨?_, fun hcount => ?_⟩⟩
  · rw [low8_add_toNat, low8_add]
  · have := o.isLt
    omega
  · have hlength : (frameBytes f 2 18).length = 17 := by simp [frameBytes]
    have := sum_toNat_le (frameBytes f 2 18)
    omega
  · have hsplit : frameBytes f 2 18 = f[2] :: frameBytes f 3 18 := by simp [frameBytes, List.drop_eq_getElem_cons]
    have hlength : (frameBytes f 3 18).length = 16 := by simp [frameBytes]
    have := sum_toNat_le (frameBytes f 3 18)
    simp only [hsplit, hcount, List.map_cons, List.sum_cons, BitVec.reduceToNat]
    omega

end Sys2Proof.Machine
end

section
/-! PROOFS. The accumulator (40 R103 to R107, R110): what each operation of the generator does, and what a run of operations
leaves in `acc`, whatever is interleaved. -/

namespace Sys2Proof.Machine

/-- Settles O4: `op = 0` selects `NOP`, which keeps the block. -/
theorem nopKeepsEveryElement : Obligations.NopKeepsEveryElement :=
  fun s din => ⟨decode_operationWord 0 din, exec_nop s⟩

/-- Settles O5: `op = 1` selects `CS_CLR`, whose effect is the rule `Performs.csClr`. -/
theorem csClrZeroesTheAccumulator : Obligations.CsClrZeroesTheAccumulator :=
  fun _ din => ⟨decode_operationWord 1 din, exec_of_performs .csClr, csum8_nil⟩

/-- Settles O6: `op = 2` selects `CS_ADD` of `din`, whose effect is the rule `Performs.csAdd`. -/
theorem csAddAddsModulo256 : Obligations.CsAddAddsModulo256 :=
  fun _ b => ⟨decode_operationWord 2 b, exec_of_performs (.csAdd b)⟩

/-- Settles O7: `op = 7` selects the reserved operation, whose effect is the rule `Performs.reserved7`. -/
theorem reservedOperationActsAsNop : Obligations.ReservedOperationActsAsNop :=
  fun _ din => ⟨decode_operationWord 7 din, exec_of_performs .reserved7⟩

/-- What one operation makes of the accumulator (10_state R21, R38; 40 R104, R105). -/
def accumulate (a : Byte) : Instr → Byte
  | .csClr | .reset => 0
  | .csAdd b => a + b
  | _ => a

/-- An operation that does not drive the accumulator leaves it. -/
theorem accumulate_of_not_drives {i : Instr} (h : drivesAccumulator i = false) (a : Byte) : accumulate a i = a := by
  cases i with
  | csClr | csAdd | reset => cases h
  | _ => rfl

/-- `accumulate` is what the model's operations do to `acc`. -/
theorem exec_acc {i : Instr} {s t : State} (h : exec i s = .next t) : t.block.acc = accumulate s.block.acc i := by
  cases hdrives : drivesAccumulator i with
  | false => rw [exec_accumulator_untouched hdrives h, accumulate_of_not_drives hdrives]
  | true =>
    cases i with
    | csAdd b =>
      cases h
      exact low8_add_toNat s.block.acc b
    | csClr | reset =>
      cases h
      rfl
    | _ => cases hdrives

/-- Well-formed operations run to the end, and `acc` is what they accumulate in order. -/
theorem runOps_acc {ops : List Instr} (wf : ∀ i ∈ ops, i.wellFormed = true) (s : State) :
    ∃ t, runOps ops s = .next t ∧ t.block.acc = ops.foldl accumulate s.block.acc := by
  induction ops generalizing s with
  | nil => exact ⟨s, rfl, rfl⟩
  | cons i ops ih =>
    obtain ⟨hi, hops⟩ := List.forall_mem_cons.mp wf
    obtain ⟨b, o, hstep⟩ := exec_wellFormed_next hi s
    obtain ⟨t, hrun, hacc⟩ := ih hops (s.after b o)
    refine ⟨t, by simp only [runOps, hstep, hrun], ?_⟩
    rw [hacc, exec_acc hstep, List.foldl_cons]

/-- The operations that do not drive the accumulator may be left out of the account. -/
theorem foldl_accumulate_filter (ops : List Instr) (a : Byte) :
    (ops.filter drivesAccumulator).foldl accumulate a = ops.foldl accumulate a := by
  induction ops generalizing a with
  | nil => rfl
  | cons i ops ih =>
    cases hdrives : drivesAccumulator i with
    | false => rw [List.filter_cons_of_neg (by simp [hdrives]), ih, List.foldl_cons, accumulate_of_not_drives hdrives]
    | true => rw [List.filter_cons_of_pos hdrives, List.foldl_cons, ih, List.foldl_cons]

/-- `CS_CLR` and a `CS_ADD` of each byte accumulate the checksum, from any start (40 R107). -/
theorem foldl_accumulate_sumOps (bytes : List Byte) (a : Byte) : (sumOps bytes).foldl accumulate a = csum8 bytes := by
  rw [sumOps, List.foldl_cons, List.foldl_map]
  exact foldl_add_zero_eq bytes

/-- Settles O10: only the operations that drive the accumulator count, and those compute the checksum. -/
theorem accumulatorComputesTheChecksum : Obligations.AccumulatorComputesTheChecksum := by
  intro bytes ops s hdriving wf
  obtain ⟨t, hrun, hacc⟩ := runOps_acc wf s
  refine ⟨t, hrun, ?_⟩
  calc t.block.acc
    _ = ops.foldl accumulate s.block.acc := hacc
    _ = (ops.filter drivesAccumulator).foldl accumulate s.block.acc := (foldl_accumulate_filter ops _).symm
    _ = (sumOps bytes).foldl accumulate s.block.acc := by rw [hdriving, sumOps]
    _ = csum8 bytes := foldl_accumulate_sumOps bytes _

/-- Operations that leave the parser alone leave, together, every element but the accumulator. -/
theorem runOps_parser_untouched {ops : List Instr} {s t : State} (hops : ∀ i ∈ ops, drivesParser i = false)
    (h : runOps ops s = .next t) : t.block = { s.block with acc := t.block.acc } := by
  induction ops generalizing s with
  | nil =>
    cases h
    rfl
  | cons i ops ih =>
    obtain ⟨hi, hrest⟩ := List.forall_mem_cons.mp hops
    simp only [runOps] at h
    split at h
    next u hstep =>
      rw [ih hrest h, (exec_parser_untouched hi hstep).1]
    next => cases h
    next => cases h

/-- What holds of `CS_CLR` and of every `CS_ADD` holds of each operation of a sum. -/
theorem forall_mem_sumOps {P : Instr → Prop} (hclr : P .csClr) (hadd : ∀ b, P (.csAdd b)) (bytes : List Byte) :
    ∀ i ∈ sumOps bytes, P i :=
  List.forall_mem_cons.mpr ⟨hclr, List.forall_mem_map.mpr fun b _ => hadd b⟩

theorem sumOps_wellFormed (bytes : List Byte) : ∀ i ∈ sumOps bytes, i.wellFormed = true :=
  forall_mem_sumOps (P := (·.wellFormed = true)) rfl (fun _ => rfl) bytes

theorem sumOps_leave_parser (bytes : List Byte) : ∀ i ∈ sumOps bytes, drivesParser i = false :=
  forall_mem_sumOps (P := (drivesParser · = false)) rfl (fun _ => rfl) bytes

/-- Settles O11: the invariant of the latch gives the checksum, O10 the accumulator, and a sum does not drive the parser. -/
theorem roundTripReproducesTheChecksum : Obligations.RoundTripReproducesTheChecksum := by
  intro s hlegal hvalid
  obtain ⟨-, hlatch, -⟩ := hlegal
  obtain ⟨-, hsum⟩ := hlatch hvalid
  refine ⟨hsum, ?_⟩
  obtain ⟨t, hrun, hacc⟩ := runOps_acc (sumOps_wellFormed (frameBytes s.block.lat 2 18)) s
  have hblock := runOps_parser_untouched (sumOps_leave_parser _) hrun
  refine ⟨t, hrun, ?_, ?_, ?_⟩
  · rw [hacc, foldl_accumulate_sumOps, hsum]
  · rw [hblock]
  · rw [hblock, hvalid]

end Sys2Proof.Machine
end

section
/-! PROOFS. Which changes of an accepted frame the reference decoder sees: any one byte of offsets 2 to 19 (40 R109). -/

namespace Sys2Proof.Machine

/-- Twenty bytes are read as the frame they are. -/
@[simp] theorem frameOf_toList (f : Frame) : frameOf f.toList = some f := by simpa using frameOf_append f []

/-- A wrong count byte decides the verdict (42 R160, R166). -/
theorem decodeStatus_of_count_ne {f : Frame} (hcount : f[2] ≠ 16) :
    decodeStatus f.toList = .unexpectedCount f[2] 16 := by
  simp only [decodeStatus, frameOf_toList, if_pos hcount]

/-- Behind a right count byte a wrong checksum decides the verdict (42 R160, R167). -/
theorem decodeStatus_of_sum_ne {f : Frame} (hcount : f[2] = 16) (hsum : csum8 (frameBytes f 2 18) ≠ f[19]) :
    decodeStatus f.toList = .checksumMismatch f[19] (csum8 (frameBytes f 2 18)) := by
  simp only [decodeStatus, frameOf_toList, if_neg (not_not.mpr hcount), if_pos hsum]

/-- A change of one element of a sequence is visible in its checksum. -/
theorem csum8_set_ne {s : List Byte} {k : Nat} (hk : k < s.length) {y : Byte} (h : y ≠ s[k]) :
    csum8 (s.set k y) ≠ csum8 s := by
  have hs : csum8 s = csum8 (s.take k ++ s[k] :: s.drop (k + 1)) := by simp
  rw [List.set_eq_take_append_cons_drop, if_pos hk, hs]
  exact csum8_replace_ne _ _ h.symm

/-- A changed frame byte within the sum is a changed element of the summed bytes. -/
theorem frameBytes_set (f : Frame) {i : Nat} (hi : i < 20) (h2 : 2 ≤ i) (y : Byte) :
    frameBytes (f.set i y) 2 18 = (frameBytes f 2 18).set (i - 2) y := by
  simp [frameBytes, Vector.toList_set, List.drop_set, List.take_set, Nat.not_lt.mpr h2]

/-- A change of one byte of offsets 3 to 19 leaves a frame whose checksum byte is not its sum: at 3 to 18 the sum alone
changes, at 19 the checksum byte alone. -/
theorem csum8_ne_of_set {f : Frame} {i : Nat} (hi : i < 20) (h3 : 3 ≤ i) {y : Byte} (hy : y ≠ f[i])
    (hsum : csum8 (frameBytes f 2 18) = f[19]) :
    csum8 (frameBytes (f.set i y) 2 18) ≠ (f.set i y)[19] := by
  have hlength : (frameBytes f 2 18).length = 17 := by simp [frameBytes]
  rw [frameBytes_set f hi (by omega)]
  by_cases h18 : i ≤ 18
  · have hbyte : (frameBytes f 2 18)[i - 2] = f[i] := by
      simp [frameBytes, show 2 + (i - 2) = i by omega]
    rw [Vector.getElem_set_ne hi (by omega) (by omega), ← hsum]
    exact csum8_set_ne (by omega) (hbyte ▸ hy)
  · obtain rfl : i = 19 := by omega
    rw [List.set_eq_of_length_le (by omega), Vector.getElem_set_self, hsum]
    exact hy.symm

/-- Settles O30: at offset 2 the count test sees the change, at 3 to 19 the checksum test. -/
theorem everySingleByteErrorIsDetected : Obligations.EverySingleByteErrorIsDetected := by
  rintro f ⟨i, hi⟩ y hf h2 hy
  obtain ⟨hcount, hsum⟩ := (decodeStatus_eq_accepted_iff f).mp hf
  split
  next htwo =>
    obtain rfl : i = 2 := htwo
    have hnew : (f.set 2 y)[2] = y := Vector.getElem_set_self _
    have hwrong : (f.set 2 y)[2] ≠ 16 := fun h => hy ((hnew.symm.trans h).trans hcount.symm)
    exact (decodeStatus_of_count_ne hwrong).trans (by rw [hnew])
  next hne =>
    have hkept : (f.set i y)[2] = f[2] := Vector.getElem_set_ne hi (by omega) hne
    have h3 : 3 ≤ i := Nat.lt_of_le_of_ne h2 (Ne.symm hne)
    exact decodeStatus_of_sum_ne (hkept.trans hcount) (csum8_ne_of_set hi h3 hy hsum)

end Sys2Proof.Machine
end

section
/-! PROOFS. The command encoder (41 R120 to R148): the frame of an opcode and its word, byte by byte, and what follows for
an instruction that has a wire opcode. -/

namespace Sys2Proof.Machine

/-- The four bytes of a command frame (41 R120). -/
theorem commandFrame_eq (o : Byte) : commandFrame o = #v[0x81, 0x73, o, 0xF4 + o] := by
  rw [commandFrame, commandChecksum_eq]
  rfl

/-- The word of a command frame: its four bytes, the first one most significant (30 R73). -/
theorem commandWord_eq (o : Byte) : commandWord o = 0x8173#16 ++ o ++ (0xF4 + o) := by
  rw [commandWord, commandChecksum_eq]
  rfl

/-- A command's checksum as the exact sum of its first three bytes, truncated (41 R148). -/
theorem commandChecksum_eq_ofNat (o : Byte) : commandChecksum o = BitVec.ofNat 8 (0x81 + 0x73 + o.toNat) := by
  simp [commandChecksum_eq, BitVec.ofNat_add]

/-- Different opcodes have different checksums (41 R148). -/
theorem commandChecksum_injective : Function.Injective commandChecksum := by
  intro o p h
  rw [commandChecksum_eq, commandChecksum_eq] at h
  exact add_left_cancel h

/-- A command's checksum is never its opcode: the header's sum is not 0 modulo 256 (41 R148). -/
theorem commandChecksum_ne (o : Byte) : commandChecksum o ≠ o := by
  rw [commandChecksum_eq, Ne, add_eq_right]
  decide

/-- `CMD_ENC o` changes no element, and its outputs are the frame's four bytes (41 R120). -/
theorem exec_cmdEnc (o : Byte) (s : State) :
    exec (.cmdEnc o) s
      = .next { s with out := { cmdOut := some #v[0x81, 0x73, o, 0xF4 + o], done := false, trace := none } } := by
  rw [← commandFrame_eq]
  exact exec_of_performs (.cmdEnc o)

/-- The frame `CMD_ENC o` presents is the same from every state (41 R148). -/
theorem cmdOut_of_exec_cmdEnc {o : Byte} {s t : State} (h : exec (.cmdEnc o) s = .next t) :
    t.out.cmdOut = some (commandFrame o) := by
  rw [exec_cmdEnc, ← commandFrame_eq] at h
  cases h
  rfl

/-- The generator's sum of header and opcode is the checksum of the command (41 R148). -/
theorem runOps_commandSum (o : Byte) (s : State) :
    ∃ t, runOps (sumOps [0x81, 0x73, o]) s = .next t ∧ t.block.acc = commandChecksum o := by
  obtain ⟨t, hrun, hacc⟩ := runOps_acc (sumOps_wellFormed [0x81, 0x73, o]) s
  exact ⟨t, hrun, hacc.trans (foldl_accumulate_sumOps _ _)⟩

/-- Settles O13: the checksum is 8-bit addition of the constant `F4`, which is injective and has no fixed point. -/
theorem commandEncodingProperties : Obligations.CommandEncodingProperties := by
  refine ⟨fun o => ⟨rfl, ?_, ?_⟩, fun o p hne => ⟨?_, ?_⟩, fun o s t s' t' hs ht => ?_, fun o s => ?_⟩
  · exact commandChecksum_eq_ofNat o
  · exact commandChecksum_ne o
  · exact hne
  · exact commandChecksum_injective.ne hne
  · exact ⟨cmdOut_of_exec_cmdEnc hs, cmdOut_of_exec_cmdEnc ht⟩
  · exact runOps_commandSum o s

/-- Settles O12: `op = 3` selects `CMD_ENC` of `din`, and `F4 + o` is the checksum in its three forms. -/
theorem cmdEncFramesEveryOpcode : Obligations.CmdEncFramesEveryOpcode := by
  intro s o
  refine ⟨decode_operationWord 3 o, exec_cmdEnc o s, ?_, ?_⟩
  · rw [← commandChecksum_eq, commandChecksum_eq_ofNat]
  · exact (commandChecksum_eq o).symm

/-- A wire command does what `CMD_ENC` of its opcode does (41 R121 to R147). -/
theorem exec_eq_exec_cmdEnc {i : Instr} {o : Byte} (named : wireOpcode i = some o) (s : State) :
    exec i s = exec (.cmdEnc o) s :=
  (exec_of_wireOpcode named s).trans (exec_of_performs (.cmdEnc o)).symm

/-- A wire command's effect and its word, from its opcode and its checksum (41 R121 to R147). -/
theorem wireCommand_emits_frame {i : Instr} {o c : Byte} (named : wireOpcode i = some o) (sum : c = 0xF4 + o)
    (s : State) :
    exec i s = .next { s with out := { cmdOut := some #v[0x81, 0x73, o, c], done := false, trace := none } }
    ∧ exec i s = exec (.cmdEnc o) s
    ∧ encode i = .frame (0x8173#16 ++ o ++ c) := by
  subst sum
  have hexec := exec_eq_exec_cmdEnc named s
  refine ⟨hexec.trans (exec_cmdEnc o s), hexec, ?_⟩
  rw [encode_of_wireOpcode named, commandWord_eq]

/-- Two wire commands with one opcode are written as one word (90 C4). -/
theorem encode_eq_of_same_wireOpcode {i j : Instr} {o : Byte} (hi : wireOpcode i = some o) (hj : wireOpcode j = some o) :
    encode i = encode j :=
  (encode_of_wireOpcode hi).trans (encode_of_wireOpcode hj).symm

/-- Settles O14: in each row the opcode is the command's own and the checksum is `F4` more. -/
theorem deviceCommandsEmitTheirFrames : Obligations.DeviceCommandsEmitTheirFrames := by
  intro s p hp
  have hrow : wireOpcode p.1 = some p.2.1 ∧ p.2.2 = 0xF4 + p.2.1 := by
    revert p
    decide
  obtain ⟨named, sum⟩ := hrow
  exact wireCommand_emits_frame named sum s

/-- Settles O15: in each row the opcode is the selection's own and `03` more than the source's byte. -/
theorem primarySelectionsEmitTheirFrames : Obligations.PrimarySelectionsEmitTheirFrames := by
  intro s p hp
  have hrow : wireOpcode p.1 = some p.2.2.1 ∧ p.2.2.2 = 0xF4 + p.2.2.1 ∧ sourceByte p.2.1 + 0x03 = p.2.2.1 := by
    revert p
    decide
  obtain ⟨named, sum, hselect⟩ := hrow
  rw [hselect]
  exact wireCommand_emits_frame named sum s

/-- Settles O16: as O15, with `41` more than the source's byte; two of the opcodes are those of device commands. -/
theorem zone2SelectionsEmitTheirFrames : Obligations.Zone2SelectionsEmitTheirFrames := by
  refine ⟨fun s p hp => ?_, encode_eq_of_same_wireOpcode (o := 0x41) rfl rfl,
    encode_eq_of_same_wireOpcode (o := 0x43) rfl rfl⟩
  have hrow : wireOpcode p.1 = some p.2.2.1 ∧ p.2.2.2 = 0xF4 + p.2.2.1 ∧ sourceByte p.2.1 + 0x41 = p.2.2.1 := by
    revert p
    decide
  obtain ⟨named, sum, hselect⟩ := hrow
  rw [hselect]
  exact wireCommand_emits_frame named sum s

end Sys2Proof.Machine
end

section
/-! PROOFS. What each operation of the frame parser does, alone (42 R163 to R170, R174). -/

namespace Sys2Proof.Machine

/-- A wrong count byte decides before the checksum is looked at (42 R166). -/
theorem completeFrame_of_count_ne {b : Block} (hcount : b.buf[2] ≠ Config.countExpected) :
    completeFrame b = { raiseError Config.resUnexpectedCount b.buf[2] Config.countExpected b with cnt := 0 } := by
  rcases completeFrame_cases b with ⟨_, e⟩ | ⟨h, _, _⟩ | ⟨h, _, _⟩
  · exact e
  all_goals exact (hcount h).elim

/-- Behind a right count byte a wrong checksum decides (42 R167). -/
theorem completeFrame_of_sum_ne {b : Block} (hcount : b.buf[2] = Config.countExpected)
    (hsum : csum8 (summedBytes b.buf) ≠ b.buf[19]) :
    completeFrame b
      = { raiseError Config.resChecksumMismatch b.buf[19] (csum8 (summedBytes b.buf)) b with cnt := 0 } := by
  rcases completeFrame_cases b with ⟨h, _⟩ | ⟨_, _, e⟩ | ⟨_, h, _⟩
  · exact (h hcount).elim
  · exact e
  · exact (hsum h).elim

/-- A frame that passes both tests is latched (42 R168). -/
theorem completeFrame_of_passes {b : Block} (hcount : b.buf[2] = Config.countExpected)
    (hsum : csum8 (summedBytes b.buf) = b.buf[19]) : completeFrame b = latchFrame b := by
  rcases completeFrame_cases b with ⟨h, _⟩ | ⟨_, h, _⟩ | ⟨_, _, e⟩
  · exact (h hcount).elim
  · exact (h hsum).elim
  · exact e

/-- Below 19 an accepted byte is shifted in and counted (42 R165). -/
theorem acceptByte_of_cnt_le {b : Block} (hcnt : b.cnt.toNat ≤ 18) (byte : Byte) :
    acceptByte byte b = { b with buf := shiftFrame b.buf byte, cnt := b.cnt + 1 } := by
  simp only [acceptByte, if_pos hcnt]

/-- At 19 an accepted byte completes the frame (42 R166 to R168). -/
theorem acceptByte_of_cnt_eq {b : Block} (hcnt : b.cnt = 19) (byte : Byte) :
    acceptByte byte b = completeFrame { b with buf := shiftFrame b.buf byte } := by
  simp [acceptByte, hcnt]

/-- Above 19, a count that no receiving block holds, an accepted byte is shifted in (log entry 16). -/
theorem acceptByte_of_cnt_gt {b : Block} (hcnt : 19 < b.cnt.toNat) (byte : Byte) :
    acceptByte byte b = { b with buf := shiftFrame b.buf byte } := by
  rw [acceptByte, if_neg (by omega), if_neg (by omega)]

/-- The 20th byte completes the frame and strobes `done` (42 R166 to R168). -/
theorem exec_fpByte_twentieth {s : State} (b : Byte) (receiving : s.block.busy = true) (hcnt : s.block.cnt = 19) :
    exec (.fpByte b) s
      = .next (s.after (completeFrame { s.block with buf := shiftFrame s.block.buf b })
          (.decoding true (traceOf s b))) := by
  rw [exec_of_performs (.byteAccepted b receiving), acceptByte_of_cnt_eq hcnt,
    show completesFrame s.block = true by simp [completesFrame, receiving, hcnt]]

/-- Settles O18: `op = 4` selects `FP_START`, whose effect is the rule `Performs.fpStart`. -/
theorem fpStartBeginsAFrame : Obligations.FpStartBeginsAFrame :=
  fun _ din => ⟨decode_operationWord 4 din, exec_of_performs .fpStart⟩

/-- Settles O19: `op = 5` selects `FP_BYTE` of `din`, which an idle block drops. -/
theorem fpByteWhileIdleIsDropped : Obligations.FpByteWhileIdleIsDropped :=
  fun _ b idle => ⟨decode_operationWord 5 b, exec_of_performs (.byteDropped b idle)⟩

/-- Settles O21: the first test of the completed frame fails. -/
theorem twentiethByteCountWrong : Obligations.TwentiethByteCountWrong := by
  intro s b F receiving hcnt hcount
  rw [exec_fpByte_twentieth b receiving hcnt, completeFrame_of_count_ne hcount]
  rfl

/-- Settles O22: the first test of the completed frame passes, the second fails. -/
theorem twentiethByteChecksumWrong : Obligations.TwentiethByteChecksumWrong := by
  intro s b F receiving hcnt hcount hsum
  have e := completeFrame_of_sum_ne (b := { s.block with buf := F }) hcount hsum
  rw [exec_fpByte_twentieth b receiving hcnt, e]
  rfl

/-- Settles O23: both tests pass; and a receiving legal block has no result, so no error values. -/
theorem twentiethByteLatchesTheFrame : Obligations.TwentiethByteLatchesTheFrame := by
  intro s b F receiving hcnt hcount hsum
  refine ⟨?_, fun hlegal => ?_⟩
  · have e := completeFrame_of_passes (b := { s.block with buf := F }) hcount hsum
    rw [exec_fpByte_twentieth b receiving hcnt, e]
    rfl
  · obtain ⟨-, -, -, hnone, -, -, -, hbusy, -⟩ := hlegal
    exact hnone (hbusy receiving)

/-- Settles O24: `op = 6` selects `FP_END`, whose effect while receiving is the rule `Performs.endShort`. -/
theorem fpEndWhileReceivingIsAShortFrame : Obligations.FpEndWhileReceivingIsAShortFrame :=
  fun _ din receiving => ⟨decode_operationWord 6 din, exec_of_performs (.endShort receiving)⟩

/-- Settles O25: an idle block ignores `FP_END`. -/
theorem fpEndWhileIdleDoesNothing : Obligations.FpEndWhileIdleDoesNothing :=
  fun _ idle => exec_of_performs (.endIgnored idle)

/-- A completed frame ends with `OK` and the latch taken over, or with a frame error and the latch as it was. -/
theorem completeFrame_latch_cases (b : Block) :
    ((completeFrame b).res = 1 ∧ (completeFrame b).latValid = true ∧ (completeFrame b).lat = b.buf)
    ∨ (((completeFrame b).res = 3 ∨ (completeFrame b).res = 4)
      ∧ (completeFrame b).lat = b.lat ∧ (completeFrame b).latValid = b.latValid) := by
  rcases completeFrame_cases b with ⟨_, e⟩ | ⟨_, _, e⟩ | ⟨_, _, e⟩ <;> rw [e]
  · exact .inr ⟨.inl rfl, rfl, rfl⟩
  · exact .inr ⟨.inr rfl, rfl, rfl⟩
  · exact .inl ⟨rfl, rfl, rfl⟩

/-- An accepted byte leaves the latch, or ends with `OK` and all of the shifted buffer in it. -/
theorem acceptByte_latch_cases (byte : Byte) (b : Block) :
    ((acceptByte byte b).lat = b.lat ∧ (acceptByte byte b).latValid = b.latValid)
    ∨ ((acceptByte byte b).res = 1 ∧ (acceptByte byte b).latValid = true
      ∧ (acceptByte byte b).lat = shiftFrame b.buf byte) := by
  rcases acceptByte_cases byte b with ⟨_, e⟩ | ⟨_, e⟩ | ⟨_, e⟩ <;> rw [e]
  · exact .inl ⟨rfl, rfl⟩
  · rcases completeFrame_latch_cases { b with buf := shiftFrame b.buf byte } with hok | ⟨_, hkept⟩
    · exact .inr hok
    · exact .inl hkept
  · exact .inl ⟨rfl, rfl⟩

/-- What one operation does to the latch: nothing; or, with the byte that completes a good frame, all of it; or `RESET`
makes it invalid and clears `res`. -/
theorem Performs.latch_cases {i : Instr} {s t : State} (h : Performs s i t) :
    (t.block.lat = s.block.lat ∧ t.block.latValid = s.block.latValid)
    ∨ (t.block.res = 1 ∧ t.block.latValid = true ∧ ∃ b, i = .fpByte b ∧ t.block.lat = shiftFrame s.block.buf b)
    ∨ (t.block.lat = s.block.lat ∧ t.block.res = 0) := by
  cases h with
  | byteAccepted b receiving =>
    rcases acceptByte_latch_cases b s.block with hkept | ⟨hres, hvalid, hlat⟩
    · exact .inl hkept
    · exact .inr (.inl ⟨hres, hvalid, b, rfl, hlat⟩)
  | reset => exact .inr (.inr ⟨rfl, rfl⟩)
  | _ => exact .inl ⟨rfl, rfl⟩

/-- Settles O29: of the three things an operation can do to the latch, two leave `res` no error code and one leaves the
latch as it was. -/
theorem noPartialUpdateOfTheLatch : Obligations.NoPartialUpdateOfTheLatch := by
  intro i s t h
  rcases (exec_eq_next_iff.mp h).latch_cases with hkept | ⟨hok, hvalid, b, hi, hlat⟩ | ⟨hlat, hnone⟩
  · exact ⟨fun _ => hkept, fun hne => (hne hkept.1).elim⟩
  · refine ⟨fun herr => ?_, fun _ => ⟨hok, hvalid, b, hi, ?_⟩⟩
    · simp [hok] at herr
    · rw [hlat, shiftFrame_toList]
  · exact ⟨fun herr => by simp [hnone] at herr, fun hne => (hne hlat).elim⟩

end Sys2Proof.Machine
end

section
/-! PROOFS. What a sequence of operations leaves in the parser, whatever is interleaved (42 R171): a fold over the block
without its accumulator, and the count of `done` strobes. -/

namespace Sys2Proof.Machine

/-- The block apart from the accumulator, which the parser neither reads nor writes (42 R167). -/
def Block.withoutAcc (b : Block) : Block := { b with acc := 0 }

/-- What one operation makes of the parser's elements and of the number of `done` strobes so far (42 R163 to R170). -/
def parse (p : Block × Nat) : Instr → Block × Nat
  | .fpStart => (startFrame p.1, p.2)
  | .fpByte x => if p.1.busy then (acceptByte x p.1, p.2 + (completesFrame p.1).toNat) else p
  | .fpEnd => if p.1.busy then (recordShortFrame p.1, p.2 + 1) else p
  | .reset => (clearBlock p.1, p.2)
  | _ => p

@[simp] theorem parse_fpStart (p : Block × Nat) : parse p .fpStart = (startFrame p.1, p.2) := rfl

@[simp] theorem parse_fpByte_of_receiving {b : Block} (receiving : b.busy = true) (n : Nat) (x : Byte) :
    parse (b, n) (.fpByte x) = (acceptByte x b, n + (completesFrame b).toNat) := if_pos receiving

@[simp] theorem parse_fpByte_of_idle {b : Block} (idle : b.busy = false) (n : Nat) (x : Byte) :
    parse (b, n) (.fpByte x) = (b, n) := if_neg (by simp [idle])

@[simp] theorem parse_fpEnd_of_receiving {b : Block} (receiving : b.busy = true) (n : Nat) :
    parse (b, n) .fpEnd = (recordShortFrame b, n + 1) := if_pos receiving

@[simp] theorem parse_fpEnd_of_idle {b : Block} (idle : b.busy = false) (n : Nat) :
    parse (b, n) .fpEnd = (b, n) := if_neg (by simp [idle])

/-- An operation that does not drive the parser leaves it. -/
theorem parse_of_not_drives {i : Instr} (h : drivesParser i = false) (p : Block × Nat) : parse p i = p := by
  cases i with
  | fpStart | fpByte | fpEnd | reset => cases h
  | _ => rfl

/-- The accumulator has no part in the completion of a frame (42 R167). -/
theorem completeFrame_withoutAcc (b : Block) : completeFrame b.withoutAcc = (completeFrame b).withoutAcc := by
  rcases completeFrame_cases b with ⟨hcount, e⟩ | ⟨hcount, hsum, e⟩ | ⟨hcount, hsum, e⟩ <;> rw [e]
  · exact completeFrame_of_count_ne hcount
  · exact completeFrame_of_sum_ne hcount hsum
  · exact completeFrame_of_passes hcount hsum

/-- The accumulator has no part in accepting a byte. -/
theorem acceptByte_withoutAcc (byte : Byte) (b : Block) :
    acceptByte byte b.withoutAcc = (acceptByte byte b).withoutAcc := by
  rcases acceptByte_cases byte b with ⟨hcnt, e⟩ | ⟨hcnt, e⟩ | ⟨hcnt, e⟩ <;> rw [e]
  · exact acceptByte_of_cnt_le (b := b.withoutAcc) hcnt byte
  · rw [← completeFrame_withoutAcc]
    exact acceptByte_of_cnt_eq (b := b.withoutAcc) (BitVec.toNat_inj.mp hcnt) byte
  · exact acceptByte_of_cnt_gt (b := b.withoutAcc) hcnt byte

/-- `parse` is what the model's operations do to the block without its accumulator, and to `done`. -/
theorem exec_parse {i : Instr} {s t : State} (h : exec i s = .next t) (n : Nat) :
    parse (s.block.withoutAcc, n) i = (t.block.withoutAcc, n + t.out.done.toNat) := by
  cases hdrives : drivesParser i with
  | false =>
    obtain ⟨hblock, hdone⟩ := exec_parser_untouched hdrives h
    rw [parse_of_not_drives hdrives, hblock, hdone]
    rfl
  | true =>
    cases i with
    | fpStart | reset =>
      cases h
      rfl
    | fpByte b =>
      cases exec_eq_next_iff.mp h with
      | wireCommand named => cases named
      | byteAccepted _ receiving =>
        rw [parse_fpByte_of_receiving (b := s.block.withoutAcc) receiving, acceptByte_withoutAcc]
        rfl
      | byteDropped _ idle => exact parse_fpByte_of_idle (b := s.block.withoutAcc) idle n b
    | fpEnd =>
      cases exec_eq_next_iff.mp h with
      | wireCommand named => cases named
      | endShort receiving => exact parse_fpEnd_of_receiving (b := s.block.withoutAcc) receiving n
      | endIgnored idle => exact parse_fpEnd_of_idle (b := s.block.withoutAcc) idle n
    | _ => cases hdrives

/-- The strobes of a sequence are those of its first step and of the rest. -/
theorem doneSteps_cons {i : Instr} {s t : State} (h : exec i s = .next t) (ops : List Instr) :
    doneSteps (i :: ops) s = t.out.done.toNat + doneSteps ops t := by
  simp only [doneSteps, h]
  cases t.out.done <;> rfl

/-- Well-formed operations run to the end, and what they leave in the parser and strobe on the way is what they `parse` to
in order. -/
theorem runOps_parse {ops : List Instr} (wf : ∀ i ∈ ops, i.wellFormed = true) (s : State) (n : Nat) :
    ∃ t, runOps ops s = .next t
      ∧ ops.foldl parse (s.block.withoutAcc, n) = (t.block.withoutAcc, n + doneSteps ops s) := by
  induction ops generalizing s n with
  | nil => exact ⟨s, rfl, rfl⟩
  | cons i ops ih =>
    obtain ⟨hi, hops⟩ := List.forall_mem_cons.mp wf
    obtain ⟨b, o, hstep⟩ := exec_wellFormed_next hi s
    obtain ⟨t, hrun, hparse⟩ := ih hops (s.after b o) (n + o.done.toNat)
    refine ⟨t, by simp only [runOps, hstep, hrun], ?_⟩
    rw [List.foldl_cons, exec_parse hstep, doneSteps_cons hstep, ← Nat.add_assoc]
    exact hparse

/-- The operations that do not drive the parser may be left out of the account. -/
theorem foldl_parse_filter (ops : List Instr) (p : Block × Nat) :
    (ops.filter drivesParser).foldl parse p = ops.foldl parse p := by
  induction ops generalizing p with
  | nil => rfl
  | cons i ops ih =>
    cases hdrives : drivesParser i with
    | false => rw [List.filter_cons_of_neg (by simp [hdrives]), ih, List.foldl_cons, parse_of_not_drives hdrives]
    | true => rw [List.filter_cons_of_pos hdrives, List.foldl_cons, ih, List.foldl_cons]

end Sys2Proof.Machine
end

section
/-! PROOFS. What `FP_START`, bytes and `FP_END` parse to (42 R165, R171): the buffer holds the bytes since `FP_START`, the
20th completes the frame, and an idle parser drops what follows. -/

namespace Sys2Proof.Machine

/-- Bytes shifted in one after another (42 R165). -/
def shiftBytes (f : Frame) (bytes : List Byte) : Frame := bytes.foldl shiftFrame f

@[simp] theorem shiftBytes_nil (f : Frame) : shiftBytes f [] = f := rfl

@[simp] theorem shiftBytes_cons (f : Frame) (x : Byte) (bytes : List Byte) :
    shiftBytes f (x :: bytes) = shiftBytes (shiftFrame f x) bytes := rfl

theorem shiftBytes_concat (f : Frame) (bytes : List Byte) (x : Byte) :
    shiftBytes f (bytes ++ [x]) = shiftFrame (shiftBytes f bytes) x := by
  simp [shiftBytes]

/-- The oldest bytes leave at the front, the new ones stand at the end. -/
theorem shiftBytes_toList (f : Frame) (bytes : List Byte) :
    (shiftBytes f bytes).toList = (f.toList ++ bytes).drop bytes.length := by
  induction bytes generalizing f with
  | nil => simp
  | cons x bytes ih =>
    have hcons : f.toList ≠ [] := List.ne_nil_of_length_pos (by simp)
    rw [shiftBytes_cons, ih, shiftFrame_toList, List.append_assoc, List.singleton_append, List.length_cons,
      ← List.tail_append_of_ne_nil hcons, List.drop_tail]

/-- Twenty bytes replace the whole buffer. -/
theorem shiftBytes_frame (f g : Frame) : shiftBytes f g.toList = g := by
  apply Vector.toList_inj.mp
  rw [shiftBytes_toList, List.drop_append_of_le_length (by simp)]
  simp

/-- Fewer than twenty bytes after `FP_START` are shifted in and counted. -/
theorem foldl_parse_fewer {bytes : List Byte} {b : Block} (receiving : b.busy = true)
    (hcnt : b.cnt.toNat + bytes.length ≤ 19) (n : Nat) :
    (bytes.map Instr.fpByte).foldl parse (b, n)
      = ({ b with buf := shiftBytes b.buf bytes, cnt := b.cnt + BitVec.ofNat 5 bytes.length }, n) := by
  induction bytes generalizing b with
  | nil => simp
  | cons x bytes ih =>
    rw [List.length_cons] at hcnt
    have hcompletes : completesFrame b = false := by simp [completesFrame]; omega
    have hup : (b.cnt + 1).toNat + bytes.length ≤ 19 := by simp; omega
    have hlength : b.cnt + 1 + BitVec.ofNat 5 bytes.length = b.cnt + BitVec.ofNat 5 (bytes.length + 1) := by
      rw [BitVec.ofNat_add, add_assoc, add_comm 1]
      rfl
    rw [List.map_cons, List.foldl_cons, parse_fpByte_of_receiving receiving, hcompletes,
      acceptByte_of_cnt_le (by omega)]
    have hrest := ih (b := { b with buf := shiftFrame b.buf x, cnt := b.cnt + 1 }) receiving hup
    simp only [hlength] at hrest
    exact hrest

/-- Twenty bytes after `FP_START` complete the frame they are, with one strobe, whatever the buffer held. -/
theorem foldl_parse_frame (f : Frame) {b : Block} (receiving : b.busy = true) (hcnt : b.cnt = 0) (n : Nat) :
    (f.toList.map Instr.fpByte).foldl parse (b, n) = (completeFrame { b with buf := f, cnt := 19 }, n + 1) := by
  obtain ⟨bytes, x, hlength, hf⟩ : ∃ bytes x, bytes.length = 19 ∧ f.toList = bytes ++ [x] :=
    ⟨f.toList.take 19, f[19], by simp, by rw [frame_toList]; rfl⟩
  have hfewer : (bytes.map Instr.fpByte).foldl parse (b, n)
      = ({ b with buf := shiftBytes b.buf bytes, cnt := 19 }, n) := by
    rw [foldl_parse_fewer receiving (by simp [hcnt, hlength]), hlength, hcnt]
    rfl
  have hbuf : shiftFrame (shiftBytes b.buf bytes) x = f := by
    rw [← shiftBytes_concat, ← hf, shiftBytes_frame]
  rw [hf, List.map_append, List.foldl_append, hfewer]
  have hlast := parse_fpByte_of_receiving (b := { b with buf := shiftBytes b.buf bytes, cnt := 19 }) receiving n x
  rw [acceptByte_of_cnt_eq rfl, hbuf, show completesFrame _ = true by simp [completesFrame, receiving]] at hlast
  exact hlast

/-- An idle parser drops bytes and `FP_END` (42 R164, R170). -/
theorem foldl_parse_idle {b : Block} (idle : b.busy = false) (bytes : List Byte) (n : Nat) :
    (bytes.map Instr.fpByte ++ [Instr.fpEnd]).foldl parse (b, n) = (b, n) := by
  induction bytes with
  | nil => exact parse_fpEnd_of_idle idle n
  | cons x bytes ih =>
    rw [List.map_cons, List.cons_append, List.foldl_cons, parse_fpByte_of_idle idle, ih]

/-- `FP_START` and bytes, before the `FP_END` of a decode (42 R162). -/
def receiveOps (bytes : List Byte) : List Instr := .fpStart :: bytes.map .fpByte

theorem decodeOps_eq (raw : List Byte) : decodeOps raw = receiveOps raw ++ [.fpEnd] := rfl

theorem decodeOps_append (bytes more : List Byte) :
    decodeOps (bytes ++ more) = receiveOps bytes ++ (more.map .fpByte ++ [.fpEnd]) := by
  simp [decodeOps, receiveOps]

theorem foldl_parse_receiveOps_fewer {bytes : List Byte} (h : bytes.length < 20) (b : Block) (n : Nat) :
    (receiveOps bytes).foldl parse (b, n)
      = ({ startFrame b with buf := shiftBytes b.buf bytes, cnt := BitVec.ofNat 5 bytes.length }, n) := by
  rw [receiveOps, List.foldl_cons, parse_fpStart,
    foldl_parse_fewer (startFrame_busy b) (by rw [startFrame_cnt]; simp; omega)]
  simp

theorem foldl_parse_receiveOps_frame (f : Frame) (b : Block) (n : Nat) :
    (receiveOps f.toList).foldl parse (b, n) = (completeFrame { startFrame b with buf := f, cnt := 19 }, n + 1) := by
  rw [receiveOps, List.foldl_cons, parse_fpStart, foldl_parse_frame f (startFrame_busy b) (startFrame_cnt b)]

theorem receiveOps_wellFormed (bytes : List Byte) : ∀ i ∈ receiveOps bytes, i.wellFormed = true :=
  List.forall_mem_cons.mpr ⟨rfl, List.forall_mem_map.mpr fun _ _ => rfl⟩

theorem decodeOps_wellFormed (raw : List Byte) : ∀ i ∈ decodeOps raw, i.wellFormed = true :=
  List.forall_mem_append.mpr ⟨receiveOps_wellFormed raw, List.forall_mem_singleton.mpr rfl⟩

theorem filter_decodeOps (raw : List Byte) : (decodeOps raw).filter drivesParser = decodeOps raw := by
  refine List.filter_eq_self.mpr (List.forall_mem_cons.mpr ⟨rfl, List.forall_mem_append.mpr ⟨?_, ?_⟩⟩)
  · exact List.forall_mem_map.mpr fun _ _ => rfl
  · exact List.forall_mem_singleton.mpr rfl

/-- After `FP_START` and at most twenty bytes, those bytes are the last of the buffer, whatever it held (42 R165). -/
theorem runOps_receiveOps_buf {bytes : List Byte} (h : bytes.length ≤ 20) (s : State) :
    ∃ t, runOps (receiveOps bytes) s = .next t ∧ t.block.buf = shiftBytes s.block.buf bytes := by
  obtain ⟨t, hrun, hparse⟩ := runOps_parse (receiveOps_wellFormed bytes) s 0
  refine ⟨t, hrun, ?_⟩
  have hbuf : ((receiveOps bytes).foldl parse (s.block.withoutAcc, 0)).1.buf = shiftBytes s.block.buf bytes := by
    rcases Nat.lt_or_eq_of_le h with hlt | heq
    · rw [foldl_parse_receiveOps_fewer hlt]
      rfl
    · obtain ⟨f, rfl⟩ : ∃ f : Frame, bytes = f.toList := ⟨⟨bytes.toArray, heq⟩, rfl⟩
      rw [foldl_parse_receiveOps_frame, completeFrame_buf, shiftBytes_frame]
  rwa [hparse] at hbuf

/-- Settles O20: one byte by the three cases of `acceptByte`; several by where `shiftBytes` leaves them. -/
theorem fpByteShiftsTheFrame : Obligations.FpByteShiftsTheFrame := by
  refine ⟨fun s b receiving => ⟨decode_operationWord 5 b, _, exec_of_performs (.byteAccepted b receiving), ?_, ?_, ?_⟩,
    fun bytes s hlength => ?_⟩
  · simp
  · intro hcnt
    have hcompletes : completesFrame s.block = false := by simp [completesFrame]; omega
    rw [acceptByte_of_cnt_le hcnt, hcompletes]
    rfl
  · intro hcnt
    simp only [State.after_block, State.after_out, Output.decoding_done, acceptByte_of_cnt_eq hcnt]
    refine ⟨completeFrame_busy _, completeFrame_cnt _, by simp [completesFrame, receiving, hcnt], ?_⟩
    rcases completeFrame_latch_cases { s.block with buf := shiftFrame s.block.buf b } with ⟨hok, _⟩ | ⟨h3 | h4, _⟩
    · exact .inr (.inr hok)
    · exact .inl h3
    · exact .inr (.inl h4)
  · obtain ⟨t, hrun, hbuf⟩ := runOps_receiveOps_buf hlength s
    refine ⟨t, hrun, fun j _ => ?_⟩
    have hindex : bytes.length + (20 - bytes.length + j) - s.block.buf.toList.length = j := by simp; omega
    rw [hbuf, shiftBytes_toList, List.getElem?_drop, List.getElem?_append_right (by simp; omega), hindex]

end Sys2Proof.Machine
end

section
/-! PROOFS. The block's decode of a byte sequence is the reference's `decode_status` (42 R160, R171 to R173). -/

namespace Sys2Proof.Machine

/-- Twenty bytes and more are a frame and what follows it. -/
theorem exists_frame_append {raw : List Byte} (h : 20 ≤ raw.length) :
    ∃ (f : Frame) (more : List Byte), raw = f.toList ++ more :=
  ⟨⟨(raw.take 20).toArray, by simp [h]⟩, raw.drop 20, (List.take_append_drop 20 raw).symm⟩

/-- The reference decoder does not look beyond the first frame (42 R172). -/
theorem decodeStatus_append (f : Frame) (more : List Byte) : decodeStatus (f.toList ++ more) = decodeStatus f.toList := by
  simp only [decodeStatus, frameOf_append, frameOf_toList]

/-- Fewer than twenty bytes are a short frame (42 R160). -/
theorem decodeStatus_of_short {raw : List Byte} (h : raw.length < 20) : decodeStatus raw = .shortFrame raw.length 20 := by
  simp only [decodeStatus, frameOf_short h]

/-- The block `new` holds the result of a decode that began at `old`: the error with its values and the latch unchanged, or
`OK` with the frame latched (42 R171). -/
def Records (old new : Block) : StatusResult → Prop
  | .accepted f => new.res = 1 ∧ new.errActual = 0 ∧ new.errExpected = 0 ∧ new.lat = f ∧ new.latValid = true
  | .shortFrame a e =>
    new.res = 2 ∧ new.errActual.toNat = a ∧ new.errExpected.toNat = e
    ∧ new.lat = old.lat ∧ new.latValid = old.latValid
  | .unexpectedCount a e =>
    new.res = 3 ∧ new.errActual = a ∧ new.errExpected = e ∧ new.lat = old.lat ∧ new.latValid = old.latValid
  | .checksumMismatch a e =>
    new.res = 4 ∧ new.errActual = a ∧ new.errExpected = e ∧ new.lat = old.lat ∧ new.latValid = old.latValid

theorem records_withoutAcc_iff (old new : Block) (r : StatusResult) :
    Records old.withoutAcc new.withoutAcc r ↔ Records old new r := by
  cases r <;> rfl

/-- A short frame records the number of bytes and the 20 expected (42 R169). -/
theorem recordShortFrame_records {old b : Block} {n : Nat} (hn : n < 20) (hcnt : b.cnt = BitVec.ofNat 5 n)
    (hlat : b.lat = old.lat) (hvalid : b.latValid = old.latValid) :
    Records old (recordShortFrame b) (.shortFrame n 20) := by
  refine ⟨rfl, ?_, rfl, hlat, hvalid⟩
  simp only [recordShortFrame, raiseError_errActual, hcnt, BitVec.toNat_setWidth, BitVec.toNat_ofNat]
  omega

/-- The block's tests of a completed frame are those of `decode_status`, in its order (42 R166 to R168). -/
theorem completeFrame_records {old b : Block} (hlat : b.lat = old.lat) (hvalid : b.latValid = old.latValid)
    (hactual : b.errActual = 0) (hexpected : b.errExpected = 0) :
    Records old (completeFrame b) (decodeStatus b.buf.toList) := by
  rcases completeFrame_cases b with ⟨hcount, e⟩ | ⟨hcount, hsum, e⟩ | ⟨hcount, hsum, e⟩ <;> rw [e]
  · rw [decodeStatus_of_count_ne hcount]
    exact ⟨rfl, rfl, rfl, hlat, hvalid⟩
  · rw [decodeStatus_of_sum_ne hcount hsum]
    exact ⟨rfl, rfl, rfl, hlat, hvalid⟩
  · rw [(decodeStatus_eq_accepted_iff b.buf).mpr ⟨hcount, hsum⟩]
    exact ⟨rfl, hactual, hexpected, rfl, rfl⟩

/-- A whole decode, from any block: one strobe, an idle parser, and the result of `decode_status`. -/
theorem foldl_parse_decodeOps (raw : List Byte) (b : Block) :
    ∃ c, (decodeOps raw).foldl parse (b, 0) = (c, 1) ∧ c.busy = false ∧ Records b c (decodeStatus raw) := by
  by_cases hlength : raw.length < 20
  · rw [decodeOps_eq, List.foldl_append, foldl_parse_receiveOps_fewer hlength, List.foldl_cons,
      List.foldl_nil, parse_fpEnd_of_receiving (by rfl), decodeStatus_of_short hlength]
    exact ⟨_, rfl, rfl, recordShortFrame_records hlength rfl rfl rfl⟩
  · obtain ⟨f, more, rfl⟩ := exists_frame_append (Nat.not_lt.mp hlength)
    rw [decodeOps_append, List.foldl_append, foldl_parse_receiveOps_frame, decodeStatus_append]
    have idle := completeFrame_busy { startFrame b with buf := f, cnt := 19 }
    exact ⟨_, foldl_parse_idle idle more 1, idle, completeFrame_records rfl rfl rfl rfl⟩

/-- Settles O26: only the operations that drive the parser count, and those decode as `decode_status` does. -/
theorem parserRefinesDecodeStatus : Obligations.ParserRefinesDecodeStatus := by
  intro raw ops s hdriving wf
  obtain ⟨t, hrun, hparse⟩ := runOps_parse wf s 0
  obtain ⟨c, hdecode, idle, hrecords⟩ := foldl_parse_decodeOps raw s.block.withoutAcc
  have hend : (t.block.withoutAcc, 0 + doneSteps ops s) = (c, 1) := by
    rw [← hparse, ← foldl_parse_filter, hdriving]
    exact hdecode
  obtain ⟨rfl, hdone⟩ := Prod.mk.inj hend
  refine ⟨t, hrun, idle, by omega, ?_⟩
  have hresult := (records_withoutAcc_iff _ _ _).mp hrecords
  cases hstatus : decodeStatus raw <;> rw [hstatus] at hresult <;> exact hresult

/-- Settles O28: the refinement, read at each of the four results of `decode_status`. -/
theorem firstFailingTestDecidesTheResult : Obligations.FirstFailingTestDecidesTheResult := by
  intro raw s
  obtain ⟨t, hrun, -, -, hresult⟩ :=
    parserRefinesDecodeStatus raw (decodeOps raw) s (filter_decodeOps raw) (decodeOps_wellFormed raw)
  refine ⟨t, hrun, fun hshort => ?_, ?_⟩
  · rw [decodeStatus_of_short hshort] at hresult
    exact hresult.1
  · rintro f rfl
    refine ⟨fun hcount => ?_, fun hcount hsum => ?_, fun hcount hsum => ?_⟩
    · rw [decodeStatus_of_count_ne hcount] at hresult
      obtain ⟨hres, hactual, hexpected, -⟩ := hresult
      exact ⟨hres, hactual, hexpected⟩
    · rw [decodeStatus_of_sum_ne hcount hsum] at hresult
      exact hresult.1
    · rw [(decodeStatus_eq_accepted_iff f).mpr ⟨hcount, hsum⟩] at hresult
      obtain ⟨hres, -, -, hlat, -⟩ := hresult
      exact ⟨hres, hlat⟩

/-- A run that does not stop is followed by the rest of the operations. -/
theorem runOps_append {ops rest : List Instr} {s t : State} (h : runOps ops s = .next t) :
    runOps (ops ++ rest) s = runOps rest t := by
  induction ops generalizing s with
  | nil =>
    cases h
    rfl
  | cons i ops ih =>
    simp only [runOps] at h
    split at h
    next u hstep => simp only [List.cons_append, runOps, hstep, ih h]
    next => cases h
    next => cases h

/-- While idle, bytes and `FP_END` end as one `NOP` does: the block as it is and quiet outputs. -/
theorem runOps_idle {s : State} (idle : s.block.busy = false) (bytes : List Byte) :
    runOps (bytes.map Instr.fpByte ++ [.fpEnd]) s = .next (s.after s.block .quiet) := by
  induction bytes generalizing s with
  | nil => simp [runOps, exec_of_performs (.endIgnored idle)]
  | cons x bytes ih =>
    simp only [List.map_cons, List.cons_append, runOps, exec_of_performs (.byteDropped x idle)]
    exact ih idle

/-- After a whole frame the parser is idle. -/
theorem runOps_receiveOps_frame (f : Frame) (s : State) :
    ∃ t, runOps (receiveOps f.toList) s = .next t ∧ t.block.busy = false := by
  obtain ⟨t, hrun, hparse⟩ := runOps_parse (receiveOps_wellFormed f.toList) s 0
  rw [foldl_parse_receiveOps_frame] at hparse
  obtain ⟨hblock, -⟩ := Prod.mk.inj hparse
  exact ⟨t, hrun, (congrArg Block.busy hblock).symm.trans (completeFrame_busy _)⟩

/-- Settles O27: after the first frame the parser is idle, and what an idle parser is given leaves no trace. -/
theorem overlongInputIsCutAtTwentyBytes : Obligations.OverlongInputIsCutAtTwentyBytes := by
  intro raw s hlength
  obtain ⟨f, more, rfl⟩ := exists_frame_append hlength
  have htake : (f.toList ++ more).take 20 = f.toList := by simp
  obtain ⟨t, hrun, idle⟩ := runOps_receiveOps_frame f s
  rw [htake]
  refine ⟨decodeStatus_append f more, ?_⟩
  calc runOps (decodeOps (f.toList ++ more)) s
    _ = runOps (more.map .fpByte ++ [.fpEnd]) t := by rw [decodeOps_append, runOps_append hrun]
    _ = .next (t.after t.block .quiet) := runOps_idle idle more
    _ = runOps [.fpEnd] t := (runOps_idle idle []).symm
    _ = runOps (decodeOps f.toList) s := by rw [decodeOps_eq, runOps_append hrun]

end Sys2Proof.Machine
end

section
/-! PROOFS. The views of a frame (43 R191 to R206): the bytes of the system id and the text, a flag as a masked bit, and what
the decoders of a selector byte and of a level answer. -/

namespace Sys2Proof.Machine

/-- The two bytes of the system id fill its 16 bits (43 R191). -/
theorem viewSystemId_toNat (f : Frame) : (viewSystemId f).toNat = f[0].toNat + 256 * f[1].toNat := by
  have h0 := f[0].isLt
  have h1 := f[1].isLt
  rw [viewSystemId, BitVec.toNat_ofNat, Nat.mod_eq_of_lt (by omega)]

/-- Offset 0 is the low byte of the system id (43 R206). -/
theorem viewSystemId_mod (f : Frame) : BitVec.ofNat 8 ((viewSystemId f).toNat % 256) = f[0] := by
  have h0 := f[0].isLt
  have hmod : (viewSystemId f).toNat % 256 = f[0].toNat := by rw [viewSystemId_toNat]; omega
  rw [hmod, BitVec.ofNat_toNat, BitVec.setWidth_eq]

/-- Offset 1 is the high byte of the system id (43 R206). -/
theorem viewSystemId_div (f : Frame) : BitVec.ofNat 8 ((viewSystemId f).toNat / 256) = f[1] := by
  have h0 := f[0].isLt
  have hdiv : (viewSystemId f).toNat / 256 = f[1].toNat := by rw [viewSystemId_toNat]; omega
  rw [hdiv, BitVec.ofNat_toNat, BitVec.setWidth_eq]

/-- The ten text bytes, one by one (43 R193). -/
theorem viewText_eq (f : Frame) : viewText f = [f[3], f[4], f[5], f[6], f[7], f[8], f[9], f[10], f[11], f[12]] := by
  rw [viewText, frameBytes, frame_toList]
  rfl

/-- Settles O43: the system id gives back its two bytes, every other view is the bytes of its offsets. -/
theorem viewsLoseNothing : Obligations.ViewsLoseNothing := by
  intro f
  rw [frame_toList, viewSystemId_mod, viewSystemId_div, viewText_eq]
  rfl

/-- Settles O38: only the system id and the text are more than a byte. -/
theorem viewsReadTheirOffsets : Obligations.ViewsReadTheirOffsets := by
  intro f
  have hread : memRead f 0 2 = some (viewSystemId f).toNat :=
    (memRead_system_id f).trans (congrArg some (viewSystemId_toNat f).symm)
  exact ⟨hread, viewSystemId_toNat f, rfl, viewText_eq f, rfl, rfl, rfl, rfl, rfl, rfl, rfl⟩

/-- A flag is its byte masked with the flag's bit (43 R195). -/
theorem flagOf_iff_and_twoPow_ne_zero (flags : Byte) (k : FlagName) :
    flagOf flags k = true ↔ flags &&& BitVec.twoPow 8 (flagBit k) ≠ 0 := by
  have hmask : BitVec.twoPow 8 (flagBit k) ≠ 0 := by cases k <;> decide
  rw [flagOf, BitVec.and_twoPow]
  split
  next hset => exact iff_of_true hset hmask
  next hclear => exact iff_of_false hclear (not_not.mpr rfl)

/-- Settles O39: each mask of the table is the power of two of its flag's bit. -/
theorem flagViewsAreTheBitsOfOffset13 : Obligations.FlagViewsAreTheBitsOfOffset13 := by
  intro f p hp
  have hmask : p.2 = BitVec.twoPow 8 (flagBit p.1) := by
    revert p
    decide
  rw [hmask]
  exact flagOf_iff_and_twoPow_ne_zero f[13] p.1

/-- The members by their range: up to 8, without the reserved 1 (43 R197). -/
theorem isSource_iff (v : Byte) : isSource v = true ↔ v.toNat ≤ 8 ∧ v ≠ 1 := by
  simp [isSource, ← BitVec.toNat_inj]

/-- The members listed are those of the range (43 R197). -/
theorem mem_sources_iff (v : Byte) : v ∈ ([0, 2, 3, 4, 5, 6, 7, 8] : List Byte) ↔ v.toNat ≤ 8 ∧ v ≠ 1 := by
  simp only [List.mem_cons, List.not_mem_nil, or_false, ne_eq, ← BitVec.toNat_inj, BitVec.reduceToNat]
  omega

/-- Settles O40: the list and the range name the same bytes. -/
theorem selectorMembership : Obligations.SelectorMembership :=
  ⟨fun v => ⟨(isSource_iff v).trans (mem_sources_iff v).symm, isSource_iff v⟩, fun _ => ⟨rfl, rfl⟩⟩

@[simp] theorem sourceOf_sourceByte (src : InputSource) : sourceOf (sourceByte src) = some src := by cases src <;> rfl

@[simp] theorem isSource_sourceByte (src : InputSource) : isSource (sourceByte src) = true := by cases src <;> rfl

/-- Decoding a selector byte inverts `sourceByte` (30 R77). -/
theorem sourceOf_eq_some_iff {v : Byte} {src : InputSource} : sourceOf v = some src ↔ v = sourceByte src := by
  constructor
  · intro h
    unfold sourceOf at h
    split at h <;> cases h <;> exact BitVec.eq_of_toNat_eq ‹_›
  · rintro rfl
    exact sourceOf_sourceByte src

/-- A byte outside the enumeration decodes to no source (43 R197). -/
theorem sourceOf_of_not_isSource {v : Byte} (h : isSource v = false) : sourceOf v = none := by
  refine Option.eq_none_iff_forall_ne_some.mpr fun src hsome => ?_
  rw [sourceOf_eq_some_iff.mp hsome, isSource_sourceByte] at h
  cases h

/-- A selector is a member exactly when the byte is that member's value (43 R198). -/
theorem selectedOf_eq_member_iff {raw : Byte} {src : InputSource} :
    selectedOf raw = .member src ↔ raw = sourceByte src := by
  rw [← sourceOf_eq_some_iff, selectedOf]
  cases sourceOf raw <;> simp

/-- A byte outside the enumeration is kept as received (43 R198). -/
theorem selectedOf_of_not_isSource {raw : Byte} (h : isSource raw = false) : selectedOf raw = .notAMember raw := by
  rw [selectedOf, sourceOf_of_not_isSource h]

/-- Settles O41: both input views are `selectedOf` of their byte. -/
theorem inputViewsDecodeTheSelector : Obligations.InputViewsDecodeTheSelector := by
  intro f p hp
  have hview : p.2 = selectedOf p.1 := by
    rcases List.mem_pair.mp hp with rfl | rfl <;> rfl
  rw [hview]
  exact ⟨fun _ => selectedOf_eq_member_iff, selectedOf_of_not_isSource⟩

/-- The line of the scale, -76 dB to +14 dB (43 R203). -/
theorem levelDb_of_le {level : Byte} (h : level.toNat ≤ 90) : levelDb level = some ((level.toNat : Int) - 76) := if_pos h

/-- Above the scale there are no decibels (43 R203). -/
theorem levelDb_of_gt {level : Byte} (h : 90 < level.toNat) : levelDb level = none := if_neg (Nat.not_le.mpr h)

/-- Settles O42: both decibel views are `levelDb` of their byte. -/
theorem decibelViewsEndAtNinety : Obligations.DecibelViewsEndAtNinety := by
  intro f p hp
  have hview : p.2 = levelDb p.1 := by
    rcases List.mem_pair.mp hp with rfl | rfl <;> rfl
  rw [hview]
  exact ⟨levelDb_of_le, levelDb_of_gt⟩

end Sys2Proof.Machine
end

section
/-! PROOFS. The host's steps (44 R220, R231, R250): how an operation begins, goes on, sends and ends, and the runs in which
only commands are left to send. -/

namespace Sys2Proof.Machine

/-- No request waits at the port, and the host is in the operation `c` with the actions `acts` to come. -/
structure Hosts (s : State) (c : Call) (acts : List HostAct) : Prop where
  port : s.port = []
  running : s.session.running = some { call := c, acts := acts }

theorem Hosts.proceed_eq {s : State} {c : Call} {acts : List HostAct} (h : Hosts s c acts) : s.proceed c acts = s := by
  rw [State.proceed, ← h.running]

theorem Hosts.after {s : State} {c : Call} {acts : List HostAct} (h : Hosts s c acts) (b : Block) (o : Output) :
    Hosts (s.after b o) c acts := ⟨h.port, h.running⟩

theorem runSteps_succ {s u : State} (h : step s = .next u) (k : Nat) : runSteps (k + 1) s = runSteps k u := by
  simp only [runSteps, h]

/-- A run that does not stop is followed by the rest of the steps. -/
theorem runSteps_add {j : Nat} {s u : State} (h : runSteps j s = .next u) (k : Nat) :
    runSteps (j + k) s = runSteps k u := by
  induction j generalizing s with
  | zero =>
    cases h
    rw [Nat.zero_add]
  | succ j ih =>
    simp only [runSteps] at h
    split at h
    next v hstep => rw [Nat.add_right_comm, runSteps_succ hstep, ih h]
    all_goals cases h

/-- The host when it has begun the operation `c`, with the operations `cs` to come after it. -/
def State.begun (s : State) (c : Call) (cs : List Call) : State :=
  { s with session :=
      { s.session with calls := cs, running := some { call := c, acts := expandCall s.session.doubleRefresh c } } }

/-- With no operation in progress the step begins the next one (44 R220, R250). -/
theorem step_begin {s : State} {c : Call} {cs : List Call} (hport : s.port = []) (hrunning : s.session.running = none)
    (hcalls : s.session.calls = c :: cs) : step s = .next ((s.begun c cs).after s.block .quiet) := by
  rw [step_of_port_nil hport]
  simp only [hostStep, hrunning, hcalls]
  exact exec_nop (s.begun c cs)

/-- The step of an operation in progress is its next action. -/
theorem step_act {s : State} {c : Call} {a : HostAct} {rest : List HostAct} (h : Hosts s c (a :: rest)) :
    step s = hostAct c a rest s := by
  rw [step_of_port_nil h.port]
  simp only [hostStep, h.running]

/-- An operation with no action left returns nothing (44 R220). -/
theorem step_end {s : State} {c : Call} (h : Hosts s c []) :
    step s = .next ((s.finish (.returned .nothing)).after s.block .quiet) := by
  rw [step_of_port_nil h.port]
  simp only [hostStep, h.running]
  exact exec_nop _

/-- Without a retry policy a host error ends the operation (44 R249). -/
theorem State.raiseHost_of_no_retry {s : State} (hretry : s.session.retryOn = []) (c : Call) (e : HostError) :
    s.raiseHost c e = s.finish (.raised e) := by
  rcases State.raiseHost_cases s c e with ⟨hmem, _⟩ | ⟨_, h⟩
  · rw [hretry] at hmem
    cases hmem
  · exact h

/-- A valid latch is read as it stands (43 R190). -/
theorem viewStep_of_valid {s : State} (hvalid : s.block.latValid = true) (act : Frame → State) :
    viewStep s act = exec .nop (act s.block.lat) := by
  rcases viewStep_cases s act with ⟨_, h⟩ | ⟨hinvalid, _⟩
  · exact h
  · rw [hvalid] at hinvalid
    cases hinvalid

/-- The bytes written for commands sent one after another (44 R231). -/
def framesOf (opcodes : List Byte) : List Byte := (opcodes.map fun o => [0x81, 0x73, o, 0xF4 + o]).flatten

@[simp] theorem framesOf_nil : framesOf [] = [] := rfl

@[simp] theorem framesOf_cons (o : Byte) (opcodes : List Byte) :
    framesOf (o :: opcodes) = [0x81, 0x73, o, 0xF4 + o] ++ framesOf opcodes := rfl

theorem Link.write_nil (l : Link) : l.write [] = l := by simp [Link.write]

theorem Link.write_write (l : Link) (bytes more : List Byte) : (l.write bytes).write more = l.write (bytes ++ more) := by
  simp [Link.write]

/-- The bytes of a command as they are written (44 R231). -/
theorem commandFrame_toList (o : Byte) : (commandFrame o).toList = [0x81, 0x73, o, 0xF4 + o] := by
  rw [commandFrame_eq]
  rfl

/-- The state with more bytes written to the transport. -/
def State.wrote (s : State) (bytes : List Byte) : State := { s with link := s.link.write bytes }

/-- The step of a command writes its four bytes (44 R231). -/
theorem step_send {s : State} {c : Call} {o : Byte} {rest : List HostAct} (h : Hosts s c (.send o :: rest)) :
    step s = .next (((s.proceed c rest).after s.block (.command o)).wrote [0x81, 0x73, o, 0xF4 + o]) := by
  rw [step_act h, ← commandFrame_toList]
  exact sendStep_eq o _

/-- The state after an operation that ended with `r`, having written `sent` and left the block. -/
def State.ended (s : State) (sent : List Byte) (r : HostResult) : State :=
  ((s.wrote sent).finish r).after s.block .quiet

theorem State.ended_nil (s : State) (r : HostResult) : s.ended [] r = (s.finish r).after s.block .quiet := by
  rw [State.ended, State.wrote, Link.write_nil]

theorem State.ended_append (s : State) (bytes more : List Byte) (r : HostResult) :
    s.ended (bytes ++ more) r = (s.wrote bytes).ended more r := by
  simp only [State.ended, State.wrote, Link.write_write]

/-- Commands and nothing else to come: each takes a step and is written, and one more step ends the operation. -/
theorem runSteps_sends {s : State} {c : Call} {opcodes : List Byte} (h : Hosts s c (opcodes.map .send)) :
    runSteps (opcodes.length + 1) s = .next (s.ended (framesOf opcodes) (.returned .nothing)) := by
  induction opcodes generalizing s with
  | nil => rw [List.length_nil, runSteps_succ (step_end h), framesOf_nil, State.ended_nil, runSteps]
  | cons o opcodes ih =>
    have hrest := (runSteps_succ (step_send h) _).trans (ih ⟨h.port, rfl⟩)
    rw [List.length_cons, hrest, framesOf_cons, State.ended_append]
    rfl

/-- A last action that decides, in a step without a block operation, which commands end the operation. -/
theorem runSteps_decide_sends {s : State} {c : Call} {a : HostAct} {opcodes : List Byte} (h : Hosts s c [a])
    (hact : hostAct c a [] s = exec .nop (s.proceed c (opcodes.map .send))) :
    runSteps (opcodes.length + 2) s = .next (s.ended (framesOf opcodes) (.returned .nothing)) := by
  have hstep : step s = .next ((s.proceed c (opcodes.map .send)).after s.block .quiet) := (step_act h).trans hact
  exact (runSteps_succ hstep _).trans (runSteps_sends ⟨h.port, rfl⟩)

end Sys2Proof.Machine
end

section
/-! PROOFS. The operations that send commands without decoding a reply: volume pulses, selections, and the setters once their
refresh is done (44 R228 to R230, R232 to R235, R237, R239, R244, R245, R247). -/

namespace Sys2Proof.Machine

/-- Settles O60: each row's operation is its command `n` times. -/
theorem volumeOperationsSendTheirPulses : Obligations.VolumeOperationsSendTheirPulses := by
  intro s n cs p hp hport hrunning hcalls
  have hrow : p.2.2.2 = 0xF4 + p.2.2.1 ∧
      expandCall s.session.doubleRefresh p.1 = (List.replicate p.2.1 p.2.2.1).map .send := by
    simp only [List.mem_cons, List.not_mem_nil, or_false] at hp
    rcases hp with rfl | rfl | rfl | rfl <;> simp [expandCall]
  obtain ⟨hsum, hacts⟩ := hrow
  have hbegin := step_begin hport hrunning hcalls
  have hsends : Hosts ((s.begun p.1 cs).after s.block .quiet) p.1 ((List.replicate p.2.1 p.2.2.1).map .send) :=
    ⟨hport, by rw [← hacts]; rfl⟩
  have hrun := (runSteps_succ hbegin _).trans (runSteps_sends hsends)
  rw [List.length_replicate, framesOf, List.map_replicate, ← hsum] at hrun
  exact ⟨_, hrun, rfl, rfl, rfl⟩

/-- The step of a selection whose byte is a source: its command is to come (44 R244). -/
theorem hostAct_select_of_isSource {src : Byte} (hsrc : isSource src = true) (c : Call) (base : Byte)
    (rest : List HostAct) (s : State) :
    hostAct c (.select src base) rest s = exec .nop (s.proceed c (.send (src + base) :: rest)) := if_pos hsrc

/-- The step of a selection whose byte is none: the error (44 R244). -/
theorem hostAct_select_of_not_isSource {src : Byte} (hsrc : isSource src = false) (c : Call) (base : Byte)
    (rest : List HostAct) (s : State) :
    hostAct c (.select src base) rest s = exec .nop (s.raiseHost c (.invalidArgument src)) :=
  if_neg (by simp [hsrc])

/-- Settles O59: each row's operation is one selection with the row's base, which tests its byte before anything is sent. -/
theorem selectionsValidateThenSend : Obligations.SelectionsValidateThenSend := by
  intro s src cs p hp hport hrunning hcalls
  have hacts : expandCall s.session.doubleRefresh p.1 = [.select src p.2] := by
    rcases List.mem_pair.mp hp with rfl | rfl <;> rfl
  have hbegin := step_begin hport hrunning hcalls
  have hselect : Hosts ((s.begun p.1 cs).after s.block .quiet) p.1 [.select src p.2] := ⟨hport, by rw [← hacts]; rfl⟩
  have hmember : isSource src = true ↔ src ∈ ([0, 2, 3, 4, 5, 6, 7, 8] : List Byte) :=
    (isSource_iff src).trans (mem_sources_iff src).symm
  refine ⟨fun hmem => ?_, fun hmem hretry => ?_⟩
  · have hact := hostAct_select_of_isSource (hmember.mpr hmem) p.1 p.2 [] ((s.begun p.1 cs).after s.block .quiet)
    have hsends := runSteps_decide_sends (opcodes := [src + p.2]) hselect hact
    exact ⟨_, (runSteps_succ hbegin 3).trans hsends, rfl, rfl, rfl⟩
  · have hnot : isSource src = false := Bool.eq_false_iff.mpr (mt hmember.mp hmem)
    have hstep := (step_act hselect).trans (hostAct_select_of_not_isSource hnot ..)
    rw [State.raiseHost_of_no_retry (s := (s.begun p.1 cs).after s.block .quiet) hretry, exec_nop] at hstep
    exact ⟨_, (runSteps_succ hbegin 1).trans (runSteps_succ hstep 0), rfl, rfl, rfl⟩

/-- A setter sends the opcode of the direction when the power flag differs, else nothing (44 R228). -/
theorem drivePowerActs_eq (on : Bool) (f : Frame) :
    drivePowerActs on f = if on = viewFlag .power f then [] else [.send (if on then 0x01 else 0x02)] := by
  unfold drivePowerActs
  cases on <;> cases viewFlag .power f <;> rfl

/-- A toggle is sent when the flag differs (44 R230). -/
theorem toggleActs_eq (d : Bool) (k : FlagName) (o : Byte) (f : Frame) :
    toggleActs d k o f = if d = viewFlag k f then [] else [.send o] := by
  unfold toggleActs
  cases d <;> cases viewFlag k f <;> rfl

/-- A last action that sends one command on a difference and nothing on agreement. -/
theorem runSteps_send_on_difference {s : State} {c : Call} {a : HostAct} {o : Byte} {desired current : Bool}
    (h : Hosts s c [a])
    (hact : hostAct c a [] s = exec .nop (s.proceed c (if desired = current then [] else [.send o]))) :
    runSteps (if desired = current then 2 else 3) s
      = .next (s.ended (if desired = current then [] else [0x81, 0x73, o, 0xF4 + o]) (.returned .nothing)) := by
  split at hact
  next hsame =>
    rw [if_pos hsame, if_pos hsame]
    exact runSteps_decide_sends (opcodes := []) h hact
  next hdiffers =>
    rw [if_neg hdiffers, if_neg hdiffers]
    exact runSteps_decide_sends (opcodes := [o]) h hact

/-- The step in which `set_power` compares the flag of a valid latch (44 R228). -/
theorem hostAct_drivePower {s : State} (hvalid : s.block.latValid = true) (c : Call) (on : Bool) :
    hostAct c (.drivePower on) [] s
      = exec .nop (s.proceed c
        (if on = viewFlag .power s.block.lat then [] else [.send (if on then 0x01 else 0x02)])) := by
  rw [← drivePowerActs_eq, ← List.append_nil (drivePowerActs _ _)]
  exact viewStep_of_valid hvalid _

/-- The step in which a toggle setter compares its flag of a valid latch (44 R230). -/
theorem hostAct_toggleUnless {s : State} (hvalid : s.block.latValid = true) (c : Call) (d : Bool) (k : FlagName)
    (o : Byte) :
    hostAct c (.toggleUnless d k o) [] s
      = exec .nop (s.proceed c (if d = viewFlag k s.block.lat then [] else [.send o])) := by
  rw [← toggleActs_eq, ← List.append_nil (toggleActs _ _ _ _)]
  exact viewStep_of_valid hvalid _

/-- Settles O56: the direction's command is sent exactly when the power flag is not the one asked for. -/
theorem setPowerSendsTheDirection : Obligations.SetPowerSendsTheDirection := by
  refine fun s on dr => ⟨rfl, fun hport hvalid hrunning => ?_⟩
  have hsent : ∀ on power : Bool,
      (if on = power then [] else [0x81, 0x73, if on then 0x01 else 0x02, 0xF4 + if on then 0x01 else 0x02])
        = (if on = true ∧ power = false then [0x81, 0x73, 0x01, 0xF5]
          else if on = false ∧ power = true then [0x81, 0x73, 0x02, 0xF6] else [] : List Byte) := by decide
  have hrun := runSteps_send_on_difference ⟨hport, hrunning⟩ (hostAct_drivePower hvalid (.setPower on) on)
  rw [hsent] at hrun
  exact ⟨_, hrun, rfl, rfl, rfl⟩

/-- Settles O57: each row's flag is the row's bit, and its command is sent exactly when the flag is not the one asked for. -/
theorem toggleSettersSendOnlyOnDifference : Obligations.ToggleSettersSendOnlyOnDifference := by
  intro s d dr p hp
  have hrow : expandCall dr p.1 = refreshActs ++ (if dr = true ∧ p.1 = .setToneDirect d then refreshActs else [])
        ++ [.toggleUnless d p.2.1 p.2.2.2.1]
      ∧ flagBit p.2.1 = p.2.2.1 ∧ 0xF4 + p.2.2.2.1 = p.2.2.2.2 := by
    revert d dr p
    decide
  obtain ⟨hexpand, hbit, hsum⟩ := hrow
  refine ⟨hexpand, fun hport hvalid hrunning => ?_⟩
  have hrun := runSteps_send_on_difference ⟨hport, hrunning⟩ (hostAct_toggleUnless hvalid p.1 d p.2.1 p.2.2.2.1)
  rw [hsum, viewFlag, flagOf, hbit] at hrun
  exact ⟨_, hrun, rfl, rfl, rfl⟩

end Sys2Proof.Machine
end

section
/-! PROOFS. The step in which a getter answers (43 R191 to R202; 44 R227, R236, R238, R240 to R243, R246). -/

namespace Sys2Proof.Machine

/-- How an operation without a retry policy ends with an answer or an error (44 R249). -/
def resultOf : Except HostError HostValue → HostResult
  | .ok v => .returned v
  | .error e => .raised e

/-- The answering step ends the operation with the answer on the frame of a valid latch, or with its error. -/
theorem step_give {s : State} {c : Call} {q : Query} {rest : List HostAct} (h : Hosts s c (.give q :: rest))
    (hvalid : s.block.latValid = true) (hretry : s.session.retryOn = []) :
    step s = .next ((s.finish (resultOf (answerQuery q s.block.lat))).after s.block .quiet) := by
  rw [step_act h, hostAct, viewStep_of_valid hvalid]
  cases answerQuery q s.block.lat with
  | ok v => exact exec_nop _
  | error e =>
    simp only [State.raiseHost_of_no_retry hretry]
    exact exec_nop _

/-- The result of an input getter for each selector byte (30 R77, 44 R242). -/
theorem resultOf_selected (v : Byte) :
    resultOf (selectedResult (selectedOf v))
      = if v = 0 then .returned (.source .fm) else if v = 2 then .returned (.source .tuner)
        else if v = 3 then .returned (.source .tunerAm) else if v = 4 then .returned (.source .cd)
        else if v = 5 then .returned (.source .aux) else if v = 6 then .returned (.source .phono)
        else if v = 7 then .returned (.source .dvd) else if v = 8 then .returned (.source .tape)
        else .raised (.invalidEnumValue v) := by
  unfold selectedOf
  cases hsource : sourceOf v with
  | some src =>
    rw [sourceOf_eq_some_iff.mp hsource]
    cases src <;> rfl
  | none =>
    have hne : ∀ src, v ≠ sourceByte src := fun src hv => by
      rw [sourceOf_eq_some_iff.mpr hv] at hsource
      cases hsource
    exact ((if_neg (hne .fm)).trans <| (if_neg (hne .tuner)).trans <| (if_neg (hne .tunerAm)).trans <|
      (if_neg (hne .cd)).trans <| (if_neg (hne .aux)).trans <| (if_neg (hne .phono)).trans <|
      (if_neg (hne .dvd)).trans <| if_neg (hne .tape)).symm

/-- Settles O58: in each row the operation is a refresh and the row's query, whose answer is the row's result. -/
theorem gettersReturnTheirView : Obligations.GettersReturnTheirView := by
  intro s f dr source p hp
  have hrow : expandCall dr p.1 = refreshActs ++ [.give p.2.1] ∧ resultOf (answerQuery p.2.1 f) = p.2.2 := by
    simp only [List.mem_cons, List.not_mem_nil, or_false] at hp
    rcases hp with rfl | rfl | rfl | rfl | rfl | rfl | rfl | rfl | rfl | rfl
    -- The five flags and the two levels are one bit or byte; the text and the two selectors have lemmas of their own.
    iterate 7 exact ⟨rfl, rfl⟩
    · exact ⟨rfl, by rw [← viewText_eq]; rfl⟩
    · exact ⟨rfl, resultOf_selected f[14]⟩
    · exact ⟨rfl, resultOf_selected f[15]⟩
  obtain ⟨hexpand, hanswer⟩ := hrow
  refine ⟨hexpand, fun hport hvalid hlat hretry hrunning => ?_⟩
  rw [step_give ⟨hport, hrunning⟩ hvalid hretry, hlat, hanswer]
  rfl

end Sys2Proof.Machine
end

section
/-! PROOFS. A refresh (44 R225, R226): the host's steps from `FP_START` to its look at `res` are a decode of the bytes it
read, and that look follows the result. -/

namespace Sys2Proof.Machine

/-- An operation of the block leaves the host's plan to the host. -/
theorem exec_proceed {i : Instr} {s u : State} (h : exec i s = .next u) (c : Call) (acts : List HostAct) :
    exec i (s.proceed c acts) = .next (u.proceed c acts) := by
  have hsame := exec_of_performs ((exec_eq_next_iff.mp h).of_same_block (s := s.proceed c acts) rfl rfl)
  rw [exec_next_eq_after h]
  exact hsame

theorem runOps_cons_next {i : Instr} {ops : List Instr} {s t : State} (h : runOps (i :: ops) s = .next t) :
    ∃ u, exec i s = .next u ∧ runOps ops u = .next t := by
  simp only [runOps] at h
  split at h
  next u hu => exact ⟨u, hu, h⟩
  all_goals cases h

theorem runOps_proceed {ops : List Instr} {s t : State} (h : runOps ops s = .next t) (c : Call) (acts : List HostAct) :
    runOps ops (s.proceed c acts) = .next (t.proceed c acts) := by
  induction ops generalizing s with
  | nil =>
    cases h
    rfl
  | cons i ops ih =>
    obtain ⟨u, hu, hrest⟩ := runOps_cons_next h
    simp only [runOps, exec_proceed hu, ih hrest]

/-- Operations of the block change nothing outside it and its outputs. -/
theorem runOps_next_eq_after {ops : List Instr} {s t : State} (h : runOps ops s = .next t) :
    t = s.after t.block t.out := by
  induction ops generalizing s with
  | nil =>
    cases h
    rfl
  | cons i ops ih =>
    obtain ⟨u, hu, hrest⟩ := runOps_cons_next h
    rw [ih hrest, exec_next_eq_after hu]
    rfl

/-- The step in which the host presents an operation of the block. -/
theorem step_issue {i : Instr} {s u : State} {c : Call} {rest : List HostAct} (h : Hosts s c (.issue i :: rest))
    (hexec : exec i s = .next u) : step s = .next (u.proceed c rest) :=
  (step_act h).trans (exec_proceed hexec c rest)

/-- The step of a read (44 R225). -/
theorem step_read {s : State} {c : Call} {rest : List HostAct} (h : Hosts s c (.read :: rest)) :
    step s = .next ((s.withReply c rest).after s.block .quiet) :=
  (step_act h).trans (exec_nop _)

/-- Operations that the host presents one by one are a run of the block, and the host goes on behind them. -/
theorem runSteps_issues {ops : List Instr} {s t : State} {c : Call} {rest : List HostAct}
    (h : Hosts s c (ops.map .issue ++ rest)) (hrun : runOps ops s = .next t) :
    runSteps ops.length s = .next (t.proceed c rest) := by
  induction ops generalizing s t with
  | nil =>
    cases hrun
    exact congrArg _ h.proceed_eq.symm
  | cons i ops ih =>
    obtain ⟨u, hu, hops⟩ := runOps_cons_next hrun
    have hport : u.port = [] := by rw [exec_next_eq_after hu, State.after_port, h.port]
    have hrest := ih (s := u.proceed c (ops.map .issue ++ rest)) ⟨hport, rfl⟩ (runOps_proceed hops c _)
    exact (runSteps_succ (step_issue h hu) _).trans hrest

/-- The state at which a refresh of `s` decodes: the block of `s`, the request written and the reply read (44 R225). -/
def State.replied (s : State) (c : Call) (rest : List HostAct) : State :=
  (s.wrote [0x81, 0x73, 0x53, 0x47]).withReply c rest

theorem map_issue_reply (bytes : List Byte) (rest : List HostAct) :
    (bytes.map Instr.fpByte ++ [Instr.fpEnd]).map .issue ++ rest
      = bytes.map (fun b => .issue (.fpByte b)) ++ .issue .fpEnd :: rest := by
  simp [Function.comp_def]

/-- After a refresh's read the host presents the bytes it took and `FP_END` (44 R225). -/
theorem hosts_replied {s : State} (hport : s.port = []) (c : Call) (rest : List HostAct) :
    Hosts (s.replied c rest) c (((s.link.available.take 20).map Instr.fpByte ++ [Instr.fpEnd]).map .issue ++ rest) :=
  ⟨hport, by rw [map_issue_reply]; rfl⟩

/-- `FP_START`, the request and the read leave what `FP_START` alone leaves of that state. -/
theorem runSteps_request {s : State} {c : Call} {rest : List HostAct} (h : Hosts s c (refreshActs ++ rest)) :
    runSteps 3 s = exec .fpStart (s.replied c (.check :: rest)) := by
  have hstart := step_issue (rest := .send 0x53 :: .read :: .check :: rest) h (exec_of_performs .fpStart)
  calc runSteps 3 s
    _ = runSteps 2 _ := runSteps_succ hstart 2
    _ = runSteps 1 _ := runSteps_succ (step_send (by exact ⟨h.port, rfl⟩)) 1
    _ = runSteps 0 _ := runSteps_succ (step_read (by exact ⟨h.port, rfl⟩)) 0

/-- After a refresh's steps up to its look at `res` the block is where a decode of the reply leaves it. -/
theorem runSteps_decode {s t : State} {c : Call} {rest : List HostAct} (h : Hosts s c (refreshActs ++ rest))
    (hrun : runOps (decodeOps (s.link.available.take 20)) (s.replied c (.check :: rest)) = .next t) :
    runSteps ((s.link.available.take 20).length + 4) s = .next (t.proceed c (.check :: rest)) := by
  obtain ⟨u, hstart, hreply⟩ := runOps_cons_next hrun
  have hrequest := runSteps_request h
  cases hstart
  have hissues := runSteps_issues ((hosts_replied h.port c (.check :: rest)).after _ _) hreply
  have hlength : (s.link.available.take 20).length + 4
      = 3 + ((s.link.available.take 20).map Instr.fpByte ++ [Instr.fpEnd]).length := by
    simp only [List.length_append, List.length_map, List.length_singleton]
    omega
  rw [hlength, runSteps_add hrequest, hissues]

/-- A decode of bytes alone drives the parser only: its result is recorded, and `acc` is left (42 R171, R174). -/
theorem runOps_decodeOps (raw : List Byte) (s : State) :
    ∃ t, runOps (decodeOps raw) s = .next t ∧ t.block.acc = s.block.acc
      ∧ Records s.block t.block (decodeStatus raw) := by
  obtain ⟨t, hrun, hparse⟩ := runOps_parse (decodeOps_wellFormed raw) s 0
  obtain ⟨d, hdecode, -, hrecords⟩ := foldl_parse_decodeOps raw s.block.withoutAcc
  obtain ⟨rfl, -⟩ := Prod.mk.inj (hparse.symm.trans hdecode)
  refine ⟨t, hrun, ?_, (records_withoutAcc_iff _ _ _).mp hrecords⟩
  obtain ⟨t', hrun', hacc⟩ := runOps_acc (decodeOps_wellFormed raw) s
  cases hrun.symm.trans hrun'
  have hundriven : (decodeOps raw).filter drivesAccumulator = [] := by
    simp [decodeOps, drivesAccumulator]
  rw [hacc, ← foldl_accumulate_filter, hundriven, List.foldl_nil]

/-- What the host makes of each result of a decode (44 R225). -/
def hostErrorOf : StatusResult → Option HostError
  | .accepted _ => none
  | .shortFrame _ _ => some .shortFrame
  | .unexpectedCount a e => some (.unexpectedCount a e)
  | .checksumMismatch a e => some (.checksumMismatch a e)

/-- The host's look at `res` sees the result that the block recorded (44 R225, 60 R282). -/
theorem refreshOutcome_of_records {old new : Block} {r : StatusResult} (h : Records old new r) :
    refreshOutcome new = some (hostErrorOf r) := by
  cases r with
  | accepted | shortFrame =>
    obtain ⟨hres, -⟩ := h
    simp only [refreshOutcome, hres]
    rfl
  | unexpectedCount a e | checksumMismatch a e =>
    obtain ⟨hres, rfl, rfl, -⟩ := h
    simp only [refreshOutcome, hres]
    rfl

/-- The host after its look at `res`: it goes on, or the operation has ended with the error (44 R226). -/
def State.checked (s : State) (c : Call) (rest : List HostAct) : Option HostError → State
  | none => s.proceed c rest
  | some e => s.finish (.raised e)

@[simp] theorem State.checked_port (s : State) (c : Call) (rest : List HostAct) (verdict : Option HostError) :
    (s.checked c rest verdict).port = s.port := by cases verdict <;> rfl

@[simp] theorem State.checked_calls (s : State) (c : Call) (rest : List HostAct) (verdict : Option HostError) :
    (s.checked c rest verdict).session.calls = s.session.calls := by cases verdict <;> rfl

@[simp] theorem State.checked_link (s : State) (c : Call) (rest : List HostAct) (verdict : Option HostError) :
    (s.checked c rest verdict).link = s.link := by cases verdict <;> rfl

/-- The step of the look at `res`, without a retry policy (44 R225, R226). -/
theorem step_check {s : State} {c : Call} {rest : List HostAct} {verdict : Option HostError}
    (h : Hosts s c (.check :: rest)) (hretry : s.session.retryOn = []) (hres : refreshOutcome s.block = some verdict) :
    step s = .next ((s.checked c rest verdict).after s.block .quiet) := by
  rw [step_act h, hostAct, hres]
  cases verdict with
  | none => exact exec_nop _
  | some e =>
    simp only [State.raiseHost_of_no_retry hretry]
    exact exec_nop _

/-- A whole refresh: the request written, the reply read and decoded, and the host where the result sends it. -/
theorem runSteps_refresh {s : State} {c : Call} {rest : List HostAct} {raw : List Byte}
    (h : Hosts s c (refreshActs ++ rest)) (hretry : s.session.retryOn = []) (hraw : s.link.available.take 20 = raw) :
    ∃ b, b.acc = s.block.acc ∧ Records s.block b (decodeStatus raw)
      ∧ runSteps (raw.length + 5) s
        = .next (((s.replied c rest).checked c rest (hostErrorOf (decodeStatus raw))).after b .quiet) := by
  subst hraw
  obtain ⟨t, hrun, hacc, hrecords⟩ := runOps_decodeOps (s.link.available.take 20) (s.replied c (.check :: rest))
  refine ⟨t.block, hacc, hrecords, ?_⟩
  have hdecode := runSteps_decode h hrun
  rw [runOps_next_eq_after hrun] at hdecode
  have hcheck := step_check (s := ((s.replied c (.check :: rest)).after t.block t.out).proceed c (.check :: rest))
    (rest := rest) ⟨h.port, rfl⟩ hretry (refreshOutcome_of_records hrecords)
  rw [runSteps_add hdecode 1, runSteps_succ hcheck]
  cases hostErrorOf (decodeStatus (s.link.available.take 20)) <;> rfl

/-- Settles O55: the operation begins, and its refresh follows the result of `decode_status`. -/
theorem refreshDecodesTheReply : Obligations.RefreshDecodesTheReply := by
  intro s c rest cs hport hrunning hcalls hretry hexpand raw
  have hrefresh : Hosts ((s.begun c cs).after s.block .quiet) c (refreshActs ++ rest) :=
    ⟨hport, by rw [← hexpand]; rfl⟩
  obtain ⟨b, hacc, hrecords, hrun⟩ := runSteps_refresh (raw := raw) hrefresh hretry rfl
  refine ⟨_, (runSteps_succ (step_begin hport hrunning hcalls) _).trans hrun, ?_⟩
  simp only [State.after_link, State.checked_link, State.after_port, State.checked_port, State.after_session,
    State.checked_calls, State.after_block]
  refine ⟨rfl, rfl, hport, rfl, hacc, ?_⟩
  cases hstatus : decodeStatus raw with
  | accepted f =>
    rw [hstatus] at hrecords
    obtain ⟨hres, -, -, hlat, hvalid⟩ := hrecords
    exact ⟨hres, hlat, hvalid, rfl, rfl⟩
  | shortFrame | unexpectedCount | checksumMismatch =>
    rw [hstatus] at hrecords
    obtain ⟨-, -, -, hlat, hvalid⟩ := hrecords
    exact ⟨hlat, hvalid, rfl, rfl⟩

end Sys2Proof.Machine
end

section
/-! PROOFS. Errors and the trace (60 R260, R265, R268, R280): which operations record an error and what else they leave,
how long the record stays, and which steps show a byte. -/

namespace Sys2Proof.Machine

/-- A decode finishes in two ways only: `FP_END` makes it a short frame, or the 20th byte completes it (10_state R34). -/
theorem Performs.finish_cases {i : Instr} {s t : State} (h : Performs s i t) (hdone : t.out.done = true) :
    s.block.busy = true
    ∧ ((i = .fpEnd ∧ t.block = recordShortFrame s.block)
      ∨ ∃ b, i = .fpByte b ∧ s.block.cnt = 19
          ∧ t.block = completeFrame { s.block with buf := shiftFrame s.block.buf b }) := by
  cases h with
  | endShort receiving => exact ⟨receiving, .inl ⟨rfl, rfl⟩⟩
  | byteAccepted b receiving =>
    have hcnt : s.block.cnt = 19 := by simpa [completesFrame, receiving, ← BitVec.toNat_inj] using hdone
    exact ⟨receiving, .inr ⟨b, rfl, hcnt, acceptByte_of_cnt_eq hcnt b⟩⟩
  | _ => simp at hdone

/-- A completed frame that is not accepted keeps the latch (60 R265). -/
theorem completeFrame_latch_of_error {b : Block} (herr : (completeFrame b).res ≠ 1) :
    (completeFrame b).lat = b.lat ∧ (completeFrame b).latValid = b.latValid := by
  rcases completeFrame_latch_cases b with ⟨hok, _⟩ | ⟨_, hkept⟩
  · exact (herr hok).elim
  · exact hkept

/-- The two errors of a completed frame, with the values they record (42 R166, R167). -/
theorem completeFrame_error_cases {b : Block} (herr : (completeFrame b).res ≠ 1) :
    ((completeFrame b).res = 3 ∧ (completeFrame b).errActual = b.buf[2] ∧ (completeFrame b).errExpected = 16
      ∧ (completeFrame b).errActual ≠ 16)
    ∨ ((completeFrame b).res = 4 ∧ b.buf[2] = 16 ∧ (completeFrame b).errActual = b.buf[19]
      ∧ (completeFrame b).errExpected = csum8 (frameBytes b.buf 2 18)
      ∧ (completeFrame b).errActual ≠ (completeFrame b).errExpected) := by
  rcases completeFrame_cases b with ⟨hcount, e⟩ | ⟨hcount, hsum, e⟩ | ⟨_, _, e⟩ <;> rw [e] at herr ⊢
  · exact .inl ⟨rfl, rfl, rfl, hcount⟩
  · exact .inr ⟨rfl, hcount, rfl, rfl, Ne.symm hsum⟩
  · exact (herr rfl).elim

/-- Settles O32: of the two ways a decode finishes, `FP_END` always records an error, and the 20th byte one of two. -/
theorem errorEntryRecordsAndIdles : Obligations.ErrorEntryRecordsAndIdles := by
  intro i s t h hdone herr
  obtain ⟨receiving, hfinish⟩ := (exec_eq_next_iff.mp h).finish_cases hdone
  rcases hfinish with ⟨rfl, e⟩ | ⟨b, rfl, hcnt, e⟩ <;> rw [e] at herr ⊢
  · exact ⟨receiving, rfl, rfl, rfl, rfl, .inl ⟨rfl, rfl, rfl, rfl, rfl, rfl⟩⟩
  · obtain ⟨hlat, hvalid⟩ := completeFrame_latch_of_error herr
    have hbuf := completeFrame_buf { s.block with buf := shiftFrame s.block.buf b }
    refine ⟨receiving, completeFrame_busy _, completeFrame_acc _, hlat, hvalid,
      .inr ⟨b, rfl, hcnt, completeFrame_cnt _, by rw [hbuf, shiftFrame_toList], ?_⟩⟩
    rw [hbuf]
    exact completeFrame_error_cases herr

/-- While idle only `FP_START` and `RESET` write the result and its values, and nothing strobes `done` (60 R268). -/
theorem Performs.record_of_idle {i : Instr} {s t : State} (h : Performs s i t) (idle : s.block.busy = false)
    (hstart : i ≠ .fpStart) (hreset : i ≠ .reset) :
    t.block.res = s.block.res ∧ t.block.errActual = s.block.errActual
    ∧ t.block.errExpected = s.block.errExpected ∧ t.out.done = false := by
  cases h with
  | byteAccepted _ receiving | endShort receiving => simp [idle] at receiving
  | fpStart => exact (hstart rfl).elim
  | reset => exact (hreset rfl).elim
  | _ => exact ⟨rfl, rfl, rfl, rfl⟩

/-- A legal block with a result is idle (10_state R40). -/
theorem Block.legal.idle_of_res_ne {b : Block} (hb : b.legal) (hres : b.res ≠ 0) : b.busy = false := by
  obtain ⟨-, -, -, -, -, -, -, hbusy, -⟩ := hb
  exact Bool.eq_false_iff.mpr fun receiving => hres (hbusy receiving)

/-- Settles O33: a legal block that holds an error is idle, and while idle the record is kept. -/
theorem errorRecordIsHeld : Obligations.ErrorRecordIsHeld := by
  intro i s t hlegal herr hstart hreset h
  have hres : s.block.res ≠ 0 := by
    rcases herr with e | e | e <;> simp [e]
  exact (exec_eq_next_iff.mp h).record_of_idle (hlegal.idle_of_res_ne hres) hstart hreset

@[simp] theorem Output.decoding_trace (d : Bool) (x : Option Byte) : (Output.decoding d x).trace = x := rfl

/-- The trace of an accepted byte is that byte, and only when the trace is fitted (60 R280). -/
theorem traceOf_eq_some_iff {s : State} {x b : Byte} : traceOf s x = some b ↔ s.traceFitted = true ∧ x = b := by
  simp [traceOf]

/-- Settles O36: only the rule of an accepted byte has a trace, and it is `traceOf` that byte. -/
theorem traceShowsAcceptedBytes : Obligations.TraceShowsAcceptedBytes := by
  intro i s t h b
  cases exec_eq_next_iff.mp h with
  | byteAccepted x receiving => simp [receiving, traceOf_eq_some_iff]
  | byteDropped x idle => simp [idle]
  | wireCommand named =>
    refine iff_of_false nofun ?_
    rintro ⟨_, _, rfl⟩
    cases named
  | _ => exact iff_of_false nofun nofun

end Sys2Proof.Machine
end

section
/-! PROOFS. Reset and hazards (70 R290 to R292, R311): what `RESET` leaves, and that no operation reads what a `NOP`
writes. -/

namespace Sys2Proof.Machine

/-- No operation reads the outputs of the step before it (10_state R42). -/
theorem exec_after_same_block (i : Instr) (s : State) (o : Output) : exec i (s.after s.block o) = exec i s := by
  rcases performs_or_badChecksum i s with ⟨t, ht⟩ | ⟨k, c, rfl, bad⟩
  · have hexec := exec_of_performs ht
    calc exec i (s.after s.block o)
      _ = .next (s.after t.block t.out) := exec_of_performs (ht.of_same_block rfl rfl)
      _ = .next t := by rw [← exec_next_eq_after hexec]
      _ = exec i s := hexec.symm
  · rw [exec_cmdFrame_of_ne bad, exec_cmdFrame_of_ne bad]

/-- The end of a sequence that is not empty does not depend on the outputs it begins with. -/
theorem runOps_after_same_block {ops : List Instr} (hops : ops ≠ []) (s : State) (o : Output) :
    runOps ops (s.after s.block o) = runOps ops s := by
  cases ops with
  | nil => exact absurd rfl hops
  | cons i rest => simp only [runOps, exec_after_same_block]

/-- Sequences that run alike from every state run alike behind the same operations. -/
theorem runOps_append_congr {x y : List Instr} (h : ∀ s, runOps x s = runOps y s) (before : List Instr) (s : State) :
    runOps (before ++ x) s = runOps (before ++ y) s := by
  induction before generalizing s with
  | nil => exact h s
  | cons i rest ih => simp only [List.cons_append, runOps, ih]

/-- A `NOP` in front of a sequence that is not empty leaves its end as it was. -/
theorem runOps_nop_cons {ops : List Instr} (hops : ops ≠ []) (s : State) : runOps (.nop :: ops) s = runOps ops s := by
  simp only [runOps, exec_nop, runOps_after_same_block hops]

/-- Settles O49: a `NOP` writes only its own outputs, which no later operation reads. -/
theorem nopStepsMayBeInserted : Obligations.NopStepsMayBeInserted := by
  refine ⟨fun i s u h => ?_, fun before after s hafter => runOps_append_congr (runOps_nop_cons hafter) before s⟩
  rw [exec_nop] at h
  cases h
  exact ⟨rfl, exec_after_same_block i s .quiet⟩

/-- `RESET` clears the block and presents nothing (10_state R38). -/
theorem exec_reset (s : State) : exec .reset s = .next (s.after (clearBlock s.block) .quiet) := exec_of_performs .reset

/-- Clearing twice is clearing once (70 R291). -/
@[simp] theorem clearBlock_clearBlock (b : Block) : clearBlock (clearBlock b) = clearBlock b := rfl

/-- A cleared block has no readable latch (70 R292). -/
@[simp] theorem clearBlock_latched (b : Block) : (clearBlock b).latched = none := rfl

/-- Settles O1: the reset state is written out with the values of the table, and its invalid latch cannot be read. -/
theorem resetStateHoldsResetValues : Obligations.ResetStateHoldsResetValues :=
  ⟨rfl, rfl, rfl, rfl, rfl, rfl, rfl, rfl, rfl, rfl, rfl⟩

/-- Settles O3: the state after a `RESET` is the cleared block with quiet outputs, and clearing it again keeps it. -/
theorem resetIsIdempotentAndAbandonsTheFrame : Obligations.ResetIsIdempotentAndAbandonsTheFrame := by
  intro s t h
  rw [exec_reset] at h
  cases h
  refine ⟨?_, rfl, rfl, rfl, rfl, clearBlock_latched s.block⟩
  rw [exec_reset, State.after_block, clearBlock_clearBlock]
  rfl

end Sys2Proof.Machine
end
